-- ==== Sys2Proof/Word.lean ====
section
/-! DEFINITION. The widths the spec gives its values (00_scope.md R11, 30_encoding.md R78): nothing here computes. -/

namespace Sys2Proof

/-- A register value or a frame-memory address: 32 bits (R11, `REG_W` and `ADDR_W`). -/
abbrev Word := BitVec 32

/-- A cut value, a width or a height: 16 bits (R11, `CUT_W`; R33). -/
abbrev Half := BitVec 16

/-- A byte of frame memory or a color channel: 8 bits (R11, `CHAN_W`). -/
abbrev Byte := BitVec 8

/-- A format code field: 4 bits (R32). -/
abbrev FmtCode := BitVec 4

/-- A byte offset in the register space: 12 bits (R11, `REG_SPACE`). -/
abbrev Offset := BitVec 12

/-- A transaction word `T` = (`WE`, `OFF`, `DATA`): 45 bits (R78). -/
abbrev TWord := BitVec 45

end Sys2Proof
end

