-- ==== Sys2Proof/Syntax.lean ====
section
/-! DEFINITION. The instructions: the host transactions of 30_encoding.md, one constructor for each row of
spec/opcode_table.json, in the table's order. A constructor's operands are exactly the bits its row leaves free, so that
no bit of a transaction word is lost; the bits the spec calls ignored are kept as an operand the meaning does not read
(assumption 14). -/

namespace Sys2Proof

/-- A host transaction (R78, R79). `data` is the whole of `DATA`; `ignored` is `DATA` where the spec ignores it. -/
inductive Instr where
  -- Commands: a write of `CMD`, offset 0x004 (R82)
  /-- `CMD NOP` (R146). -/
  | cmdNop
  /-- `CMD NEGOTIATE` (R112). -/
  | cmdNegotiate
  /-- `CMD PROCESS` (R124). -/
  | cmdProcess
  /-- `CMD CLEAR_ERROR` (R147). -/
  | cmdClearError
  /-- Illegal command words with `OP` 0x04 to 0x07 and `DATA[31:8]` = 0 (R148): `lo` is `OP[1:0]`. -/
  | cmdIllegal04 (lo : BitVec 2)
  /-- `OP` 0x08 to 0x0F (R148): `lo` is `OP[2:0]`. -/
  | cmdIllegal08 (lo : BitVec 3)
  /-- `OP` 0x10 to 0x1F (R148): `lo` is `OP[3:0]`. -/
  | cmdIllegal10 (lo : BitVec 4)
  /-- `OP` 0x20 to 0x3F (R148): `lo` is `OP[4:0]`. -/
  | cmdIllegal20 (lo : BitVec 5)
  /-- `OP` 0x40 to 0x7F (R148): `lo` is `OP[5:0]`. -/
  | cmdIllegal40 (lo : BitVec 6)
  /-- `OP` 0x80 to 0xFF (R148): `lo` is `OP[6:0]`. -/
  | cmdIllegal80 (lo : BitVec 7)
  /-- The table's catch-all: `DATA[31:8]` is not 0 (R148; `Instr.wellFormed` checks it). -/
  | cmdIllegalHigh (data : Word)
  -- Register reads (R154 to R173); `DATA` is ignored
  | rdId (ignored : Word)
  | rdCmd (ignored : Word)
  | rdStatus (ignored : Word)
  | rdIntStatus (ignored : Word)
  | rdIntEnable (ignored : Word)
  | rdPreset (ignored : Word)
  | rdNearCut (ignored : Word)
  | rdFarCut (ignored : Word)
  | rdFmt (ignored : Word)
  | rdGeom (ignored : Word)
  | rdCtxFmt (ignored : Word)
  | rdCtxGeom (ignored : Word)
  | rdSrcBase (ignored : Word)
  | rdSrcStride (ignored : Word)
  | rdSrcGeom (ignored : Word)
  | rdSrcFmt (ignored : Word)
  | rdDstBase (ignored : Word)
  | rdDstStride (ignored : Word)
  | rdDstGeom (ignored : Word)
  | rdDstFmt (ignored : Word)
  -- Register writes
  /-- `WR ID`: read-only, ignored (R152). -/
  | wrId (ignored : Word)
  /-- `WR STATUS`: read-only, ignored (R152). -/
  | wrStatus (ignored : Word)
  /-- `WR INT_STATUS`: write 1 to clear (R150). -/
  | wrIntStatus (data : Word)
  /-- `WR INT_ENABLE` (R151). -/
  | wrIntEnable (data : Word)
  /-- `WR PRESET` (R89). -/
  | wrPreset (data : Word)
  /-- `WR NEAR_CUT` (R90). -/
  | wrNearCut (data : Word)
  /-- `WR FAR_CUT` (R91). -/
  | wrFarCut (data : Word)
  /-- `WR FMT` (R110). -/
  | wrFmt (data : Word)
  /-- `WR GEOM` (R111). -/
  | wrGeom (data : Word)
  /-- `WR CTX_FMT`: read-only, ignored (R152). -/
  | wrCtxFmt (ignored : Word)
  /-- `WR CTX_GEOM`: read-only, ignored (R152). -/
  | wrCtxGeom (ignored : Word)
  /-- `WR SRC_BASE` (R116). -/
  | wrSrcBase (data : Word)
  /-- `WR SRC_STRIDE` (R117). -/
  | wrSrcStride (data : Word)
  /-- `WR SRC_GEOM` (R118). -/
  | wrSrcGeom (data : Word)
  /-- `WR SRC_FMT` (R119). -/
  | wrSrcFmt (data : Word)
  /-- `WR DST_BASE` (R120). -/
  | wrDstBase (data : Word)
  /-- `WR DST_STRIDE` (R121). -/
  | wrDstStride (data : Word)
  /-- `WR DST_GEOM` (R122). -/
  | wrDstGeom (data : Word)
  /-- `WR DST_FMT` (R123). -/
  | wrDstFmt (data : Word)
  -- Unmapped offsets, multiples of 4 from 0x050 on (R153): `we` is `WE`, `sel` the offset bits the row leaves free
  /-- Offsets 0x050 to 0x05C: `sel` is `OFF[3:2]`. -/
  | unmapped050 (we : Bool) (sel : BitVec 2) (ignored : Word)
  /-- Offsets 0x060 to 0x07C: `sel` is `OFF[4:2]`. -/
  | unmapped060 (we : Bool) (sel : BitVec 3) (ignored : Word)
  /-- Offsets 0x080 to 0x0FC: `sel` is `OFF[6:2]`. -/
  | unmapped080 (we : Bool) (sel : BitVec 5) (ignored : Word)
  /-- Offsets 0x100 to 0x1FC: `sel` is `OFF[7:2]`. -/
  | unmapped100 (we : Bool) (sel : BitVec 6) (ignored : Word)
  /-- Offsets 0x200 to 0x3FC: `sel` is `OFF[8:2]`. -/
  | unmapped200 (we : Bool) (sel : BitVec 7) (ignored : Word)
  /-- Offsets 0x400 to 0x7FC: `sel` is `OFF[9:2]`. -/
  | unmapped400 (we : Bool) (sel : BitVec 8) (ignored : Word)
  /-- Offsets 0x800 to 0xFFC: `sel` is `OFF[10:2]`. -/
  | unmapped800 (we : Bool) (sel : BitVec 9) (ignored : Word)
  -- Offsets that are no multiple of 4 (R64): `hi` is `OFF[11:2]`. No instruction: refused by name.
  /-- `OFF[1:0]` = 01 (R64). -/
  | misaligned01 (we : Bool) (hi : BitVec 10) (data : Word)
  /-- `OFF[1:0]` = 10 (R64). -/
  | misaligned10 (we : Bool) (hi : BitVec 10) (data : Word)
  /-- `OFF[1:0]` = 11 (R64). -/
  | misaligned11 (we : Bool) (hi : BitVec 10) (data : Word)
  deriving DecidableEq, Repr

end Sys2Proof
end

