-- ==== Sys2Proof/WellFormed.lean ====
section
/-! DEFINITION. Which terms of `Instr` some transaction word encodes. Every operand has exactly the width its row leaves
free, so one check remains: the catch-all row of the illegal command words is not for a word an earlier row matches. -/

namespace Sys2Proof

/-- `cmdIllegalHigh data` stands for a command word with `DATA[31:8]` not 0 (R82, R148; the table decodes first match in
list order); every other term is a transaction as it stands. -/
def Instr.wellFormed : Instr → Bool
  | .cmdIllegalHigh data => decide (data.extractLsb' 8 24 ≠ 0)
  | .cmdNop | .cmdNegotiate | .cmdProcess | .cmdClearError
  | .cmdIllegal04 _ | .cmdIllegal08 _ | .cmdIllegal10 _ | .cmdIllegal20 _ | .cmdIllegal40 _ | .cmdIllegal80 _
  | .rdId _ | .rdCmd _ | .rdStatus _ | .rdIntStatus _ | .rdIntEnable _ | .rdPreset _ | .rdNearCut _ | .rdFarCut _
  | .rdFmt _ | .rdGeom _ | .rdCtxFmt _ | .rdCtxGeom _ | .rdSrcBase _ | .rdSrcStride _ | .rdSrcGeom _ | .rdSrcFmt _
  | .rdDstBase _ | .rdDstStride _ | .rdDstGeom _ | .rdDstFmt _
  | .wrId _ | .wrStatus _ | .wrIntStatus _ | .wrIntEnable _ | .wrPreset _ | .wrNearCut _ | .wrFarCut _ | .wrFmt _
  | .wrGeom _ | .wrCtxFmt _ | .wrCtxGeom _ | .wrSrcBase _ | .wrSrcStride _ | .wrSrcGeom _ | .wrSrcFmt _
  | .wrDstBase _ | .wrDstStride _ | .wrDstGeom _ | .wrDstFmt _
  | .unmapped050 _ _ _ | .unmapped060 _ _ _ | .unmapped080 _ _ _ | .unmapped100 _ _ _ | .unmapped200 _ _ _
  | .unmapped400 _ _ _ | .unmapped800 _ _ _
  | .misaligned01 _ _ _ | .misaligned10 _ _ _ | .misaligned11 _ _ _ => true

end Sys2Proof
end

