-- ==== Sys2Proof/Decode.lean ====
section
/-! DEFINITION. Decoding a transaction word (30_encoding.md R78, R79, R80, R82), total over all 2^45 words, and the
encoder written from the same tables. -/

namespace Sys2Proof

/-- `WE`: bit 44 of a transaction word (R78). -/
def TWord.we (t : TWord) : Bool := t.getLsbD 44

/-- `OFF`: bits 43:32 of a transaction word (R78). -/
def TWord.off (t : TWord) : Offset := t.extractLsb' 32 12

/-- `DATA`: bits 31:0 of a transaction word (R78). -/
def TWord.data (t : TWord) : Word := t.extractLsb' 0 32

/-- A write of `CMD` names a command by its whole `DATA` (R82); every other word is illegal (R148), told apart by the
rows of the opcode table. -/
def decodeCommand (d : Word) : Instr :=
  if d.extractLsb' 8 24 ≠ 0 then .cmdIllegalHigh d
  else if d = 0 then .cmdNop
  else if d = 1 then .cmdNegotiate
  else if d = 2 then .cmdProcess
  else if d = 3 then .cmdClearError
  else if d.getLsbD 7 then .cmdIllegal80 (d.extractLsb' 0 7)
  else if d.getLsbD 6 then .cmdIllegal40 (d.extractLsb' 0 6)
  else if d.getLsbD 5 then .cmdIllegal20 (d.extractLsb' 0 5)
  else if d.getLsbD 4 then .cmdIllegal10 (d.extractLsb' 0 4)
  else if d.getLsbD 3 then .cmdIllegal08 (d.extractLsb' 0 3)
  else .cmdIllegal04 (d.extractLsb' 0 2)

/-- The register a read at `off` names (R80); `none` at an offset that names no register. -/
def decodeRead (off : Offset) (d : Word) : Option Instr :=
  if off = 0x000#12 then some (.rdId d)
  else if off = 0x004#12 then some (.rdCmd d)
  else if off = 0x008#12 then some (.rdStatus d)
  else if off = 0x00C#12 then some (.rdIntStatus d)
  else if off = 0x010#12 then some (.rdIntEnable d)
  else if off = 0x014#12 then some (.rdPreset d)
  else if off = 0x018#12 then some (.rdNearCut d)
  else if off = 0x01C#12 then some (.rdFarCut d)
  else if off = 0x020#12 then some (.rdFmt d)
  else if off = 0x024#12 then some (.rdGeom d)
  else if off = 0x028#12 then some (.rdCtxFmt d)
  else if off = 0x02C#12 then some (.rdCtxGeom d)
  else if off = 0x030#12 then some (.rdSrcBase d)
  else if off = 0x034#12 then some (.rdSrcStride d)
  else if off = 0x038#12 then some (.rdSrcGeom d)
  else if off = 0x03C#12 then some (.rdSrcFmt d)
  else if off = 0x040#12 then some (.rdDstBase d)
  else if off = 0x044#12 then some (.rdDstStride d)
  else if off = 0x048#12 then some (.rdDstGeom d)
  else if off = 0x04C#12 then some (.rdDstFmt d)
  else none

/-- The register a write at `off` names (R80), commands through `decodeCommand`; `none` at an offset that names no
register. -/
def decodeWrite (off : Offset) (d : Word) : Option Instr :=
  if off = 0x000#12 then some (.wrId d)
  else if off = 0x004#12 then some (decodeCommand d)
  else if off = 0x008#12 then some (.wrStatus d)
  else if off = 0x00C#12 then some (.wrIntStatus d)
  else if off = 0x010#12 then some (.wrIntEnable d)
  else if off = 0x014#12 then some (.wrPreset d)
  else if off = 0x018#12 then some (.wrNearCut d)
  else if off = 0x01C#12 then some (.wrFarCut d)
  else if off = 0x020#12 then some (.wrFmt d)
  else if off = 0x024#12 then some (.wrGeom d)
  else if off = 0x028#12 then some (.wrCtxFmt d)
  else if off = 0x02C#12 then some (.wrCtxGeom d)
  else if off = 0x030#12 then some (.wrSrcBase d)
  else if off = 0x034#12 then some (.wrSrcStride d)
  else if off = 0x038#12 then some (.wrSrcGeom d)
  else if off = 0x03C#12 then some (.wrSrcFmt d)
  else if off = 0x040#12 then some (.wrDstBase d)
  else if off = 0x044#12 then some (.wrDstStride d)
  else if off = 0x048#12 then some (.wrDstGeom d)
  else if off = 0x04C#12 then some (.wrDstFmt d)
  else none

/-- An aligned offset that names no register, 0x050 to 0xFFC (R80, R153), by the table's row: the row is told by the
highest bits set. -/
def decodeUnmapped (we : Bool) (off : Offset) (d : Word) : Instr :=
  if off.getLsbD 11 then .unmapped800 we (off.extractLsb' 2 9) d
  else if off.getLsbD 10 then .unmapped400 we (off.extractLsb' 2 8) d
  else if off.getLsbD 9 then .unmapped200 we (off.extractLsb' 2 7) d
  else if off.getLsbD 8 then .unmapped100 we (off.extractLsb' 2 6) d
  else if off.getLsbD 7 then .unmapped080 we (off.extractLsb' 2 5) d
  else if off.getLsbD 5 then .unmapped060 we (off.extractLsb' 2 3) d
  else .unmapped050 we (off.extractLsb' 2 2) d

/-- Decoding by the three fields, in the order of R79: alignment first, then the register map, then unmapped. -/
def decodeFields (we : Bool) (off : Offset) (d : Word) : Instr :=
  if off.extractLsb' 0 2 = 1#2 then .misaligned01 we (off.extractLsb' 2 10) d
  else if off.extractLsb' 0 2 = 2#2 then .misaligned10 we (off.extractLsb' 2 10) d
  else if off.extractLsb' 0 2 = 3#2 then .misaligned11 we (off.extractLsb' 2 10) d
  else ((if we then decodeWrite off d else decodeRead off d).getD (decodeUnmapped we off d))

/-- `decode(T)` of R79: total, every word is exactly one transaction. -/
def decode (t : TWord) : Instr := decodeFields t.we t.off t.data

/-- Why a number is no transaction word. -/
inductive DecodeError where
  /-- It has a bit above bit 44 (R78: a transaction word has 45 bits). Safe: the model refuses what the spec does not define. -/
  | wordTooWide
  deriving DecidableEq, Repr

/-- A number read as a transaction word: rejected by name where it has more than 45 bits (R78). -/
def decodeNumber (w : Nat) : Except DecodeError Instr :=
  if w < 2 ^ 45 then .ok (decode (BitVec.ofNat 45 w)) else .error .wordTooWide

/-- The instruction the decoder reads from an opcode-table word of `nbits` bits: a transaction word is one number, stored
nowhere, so it reaches the decoder as it is. -/
def decodeTableWord (nbits w : Nat) : Option Instr := (decodeNumber (w % 2 ^ nbits)).toOption

/-! The encoder. -/

/-- The transaction word of its three fields (R78). -/
def TWord.ofFields (we : Bool) (off : Offset) (d : Word) : TWord :=
  BitVec.cast (by decide : 1 + 12 + 32 = 45) (BitVec.ofBool we ++ off ++ d)

/-- `RegRead(off)`, with the ignored `DATA` bits (R78). -/
def readWord (off : Offset) (d : Word) : TWord := TWord.ofFields false off d

/-- `RegWrite(off, d)` (R78). -/
def writeWord (off : Offset) (d : Word) : TWord := TWord.ofFields true off d

/-- The transaction word of an instruction (R78, R80, R82, and the rows of the opcode table). -/
def encode : Instr → TWord
  | .cmdNop => writeWord 0x004#12 0x00000000#32
  | .cmdNegotiate => writeWord 0x004#12 0x00000001#32
  | .cmdProcess => writeWord 0x004#12 0x00000002#32
  | .cmdClearError => writeWord 0x004#12 0x00000003#32
  | .cmdIllegal04 lo => writeWord 0x004#12 (1#30 ++ lo)
  | .cmdIllegal08 lo => writeWord 0x004#12 (1#29 ++ lo)
  | .cmdIllegal10 lo => writeWord 0x004#12 (1#28 ++ lo)
  | .cmdIllegal20 lo => writeWord 0x004#12 (1#27 ++ lo)
  | .cmdIllegal40 lo => writeWord 0x004#12 (1#26 ++ lo)
  | .cmdIllegal80 lo => writeWord 0x004#12 (1#25 ++ lo)
  | .cmdIllegalHigh d => writeWord 0x004#12 d
  | .rdId d => readWord 0x000#12 d
  | .rdCmd d => readWord 0x004#12 d
  | .rdStatus d => readWord 0x008#12 d
  | .rdIntStatus d => readWord 0x00C#12 d
  | .rdIntEnable d => readWord 0x010#12 d
  | .rdPreset d => readWord 0x014#12 d
  | .rdNearCut d => readWord 0x018#12 d
  | .rdFarCut d => readWord 0x01C#12 d
  | .rdFmt d => readWord 0x020#12 d
  | .rdGeom d => readWord 0x024#12 d
  | .rdCtxFmt d => readWord 0x028#12 d
  | .rdCtxGeom d => readWord 0x02C#12 d
  | .rdSrcBase d => readWord 0x030#12 d
  | .rdSrcStride d => readWord 0x034#12 d
  | .rdSrcGeom d => readWord 0x038#12 d
  | .rdSrcFmt d => readWord 0x03C#12 d
  | .rdDstBase d => readWord 0x040#12 d
  | .rdDstStride d => readWord 0x044#12 d
  | .rdDstGeom d => readWord 0x048#12 d
  | .rdDstFmt d => readWord 0x04C#12 d
  | .wrId d => writeWord 0x000#12 d
  | .wrStatus d => writeWord 0x008#12 d
  | .wrIntStatus d => writeWord 0x00C#12 d
  | .wrIntEnable d => writeWord 0x010#12 d
  | .wrPreset d => writeWord 0x014#12 d
  | .wrNearCut d => writeWord 0x018#12 d
  | .wrFarCut d => writeWord 0x01C#12 d
  | .wrFmt d => writeWord 0x020#12 d
  | .wrGeom d => writeWord 0x024#12 d
  | .wrCtxFmt d => writeWord 0x028#12 d
  | .wrCtxGeom d => writeWord 0x02C#12 d
  | .wrSrcBase d => writeWord 0x030#12 d
  | .wrSrcStride d => writeWord 0x034#12 d
  | .wrSrcGeom d => writeWord 0x038#12 d
  | .wrSrcFmt d => writeWord 0x03C#12 d
  | .wrDstBase d => writeWord 0x040#12 d
  | .wrDstStride d => writeWord 0x044#12 d
  | .wrDstGeom d => writeWord 0x048#12 d
  | .wrDstFmt d => writeWord 0x04C#12 d
  | .unmapped050 we sel d => TWord.ofFields we (0b00000101#8 ++ sel ++ 0#2) d
  | .unmapped060 we sel d => TWord.ofFields we (0b0000011#7 ++ sel ++ 0#2) d
  | .unmapped080 we sel d => TWord.ofFields we (0b00001#5 ++ sel ++ 0#2) d
  | .unmapped100 we sel d => TWord.ofFields we (0b0001#4 ++ sel ++ 0#2) d
  | .unmapped200 we sel d => TWord.ofFields we (0b001#3 ++ sel ++ 0#2) d
  | .unmapped400 we sel d => TWord.ofFields we (0b01#2 ++ sel ++ 0#2) d
  | .unmapped800 we sel d => TWord.ofFields we (0b1#1 ++ sel ++ 0#2) d
  | .misaligned01 we hi d => TWord.ofFields we (hi ++ 1#2) d
  | .misaligned10 we hi d => TWord.ofFields we (hi ++ 2#2) d
  | .misaligned11 we hi d => TWord.ofFields we (hi ++ 3#2) d

end Sys2Proof
end

