-- ==== Sys2Proof/Config.lean ====
section
/-! DEFINITION. What an implementation or the platform fixes, and the values the spec leaves free.
The OPEN parameters no rule observes (`LANES`, `REG_BASE`, `BUILD_LATENCY`, `PIXEL_RATE`, `IRQ_ROUTING`,
`PLATFORM_COHERENCE`; 92_eei_decisions.md) have no constant here: see assumption 20. `JET_ROM` is a field of State
(assumption 13). -/

namespace Sys2Proof

/-- The bytes the spec leaves at "any value": a destination pixel byte after an abort (60_exceptions.md R185) or after a
reset during a frame (70_reset_and_hazards.md R199), and what a host load of the destination plane returns during a frame
(20_memory.md R73). The `n`-th free byte of a run; it has no body, so no proof can use a value of it (assumption 4). -/
opaque Config.freeByte : Nat → Byte

/-- Frame memory has 2^32 bytes, addresses 0x00000000 to 0xFFFFFFFF (20_memory.md R56). -/
def Config.memBytes : Nat := 2 ^ 32

/-- What a byte of frame memory that nothing has written reads as. DESIGN CHOICE (assumption 1): the spec gives frame
memory no contents; the programs of 95_test_vectors.md take every byte they do not list as 0. Unsafe. -/
def Config.unlistedByte : Byte := 0

/-- The one size of a register access that has a meaning, in bits (20_memory.md R64). -/
def Config.registerAccessBits : Nat := 32

end Sys2Proof
end

