-- ==== Sys2Proof/Machine/Palette.lean ====
section
/-! DEFINITION. A color, a lookup-table bank (10_state.md R45, R46) and the default palette ROM
(40_configuration.md R102). -/

namespace Sys2Proof.Machine

/-- A table entry: three 8-bit channels (R46). -/
structure Rgb where
  r : Byte
  g : Byte
  b : Byte
  deriving DecidableEq, Repr

/-- A table of 256 entries (R11 `LUT_ENTRIES`, R45). -/
structure Lut where
  entries : List Rgb
  size : entries.length = 256
  deriving DecidableEq, Repr

/-- The entry at an 8-bit index: always in range (42_frame_transform.md R142). -/
def lookup (t : Lut) (i : Byte) : Rgb := t.entries[i.toNat]'(by rw [t.size]; exact i.isLt)

/-- `clamp(x, lo, hi)` on unbounded integers (00_scope.md R13). -/
def clamp (x lo hi : Int) : Int := min (max x lo) hi

/-- One channel of the default palette ROM at index `i`, with `k` = 3, 2, 1 for R, G, B:
`clamp(382 - |4i - 255k|, 0, 255)` (R102). -/
def jetChannel (k : Nat) (i : Nat) : Byte :=
  BitVec.ofInt 8 (clamp (382 - ((4 * (i : Int) - 255 * (k : Int)).natAbs : Int)) 0 255)

/-- Entry `i` of the default palette ROM (R102). -/
def jetEntry (i : Nat) : Rgb := ⟨jetChannel 3 i, jetChannel 2 i, jetChannel 1 i⟩

/-- The default contents of the palette ROM (R102, R103). -/
def defaultJetRom : Lut := ⟨(List.range 256).map jetEntry, by rw [List.length_map, List.length_range]⟩

/-- A bank whose entries are all (0, 0, 0). -/
def blackLut : Lut := ⟨List.replicate 256 ⟨0, 0, 0⟩, List.length_replicate⟩

end Sys2Proof.Machine
end

