-- ==== Sys2Proof/Machine/State.lean ====
section
/-! DEFINITION. The machine's state as plain data (10_state.md), the reasons a step can stop, and the state after reset
(10_state.md R55, 70_reset_and_hazards.md R197). -/

namespace Sys2Proof.Machine

/-- The palette preset: code 0 is NONE, code 1 is JET, and `PRESET` never holds another value (R29, R83). -/
inductive Preset where
  | none
  | jet
  deriving DecidableEq, Repr

/-- The supported input formats (41_negotiation_dispatch.md R107). -/
inductive InFormat where
  | gray8
  | gray16le
  deriving DecidableEq, Repr

/-- The supported output formats (R108). -/
inductive OutFormat where
  | rgb
  | bgr
  | rgba
  | bgra
  deriving DecidableEq, Repr

/-- The error codes recorded in `STATUS.ERR_CODE`; codes 6 and 7 are never recorded (60_exceptions.md R174). -/
inductive ErrorCode where
  | none
  | invalidConfiguration
  | unsupportedFormat
  | invalidFrame
  | illegalCommand
  | busError
  deriving DecidableEq, Repr

/-- Where the engine is. `STATUS.BUSY` is 1 in every phase but `idle` (R26, 42_frame_transform.md R126, R130). -/
inductive Phase where
  /-- No frame. -/
  | idle
  /-- A frame is accepted and its pixel work has not begun: it waits for the build fence (40_configuration.md R98). -/
  | fenced
  /-- The table is published and pixels are being processed (R99, R127). -/
  | running
  /-- An error response has come and the frame waits for its outstanding requests (60_exceptions.md R185). -/
  | aborting
  deriving DecidableEq, Repr

/-- The staged format register `FMT` (R32): its reserved bits are not stored. -/
structure Fmt where
  inFmt : FmtCode
  outFmt : FmtCode
  deriving DecidableEq, Repr

/-- A geometry register: `WIDTH` and `HEIGHT` (R33, R35, R38, R42). -/
structure Geom where
  width : Half
  height : Half
  deriving DecidableEq, Repr

/-- The frame latch `F_*` (R50), read only during a frame. -/
structure FrameLatch where
  preset : Preset
  near : Half
  far : Half
  inFmt : InFormat
  outFmt : OutFormat
  width : Half
  height : Half
  srcBase : Word
  srcStride : Word
  dstBase : Word
  dstStride : Word
  deriving DecidableEq, Repr

/-- A pixel (x, y) of a frame (R51). -/
abbrev Pixel := Nat × Nat

/-- The platform's answer to a frame-memory request: done, or an error response (60_exceptions.md R179). -/
inductive BusReply where
  | ok
  | error
  deriving DecidableEq, Repr

/-- What happens next, from outside the block or by one of its agents (00_scope.md R19, 60_exceptions.md R183). A list of
these in State is the order in which the agents' atomic steps happen, which the spec leaves open (assumption 5). -/
inductive Event where
  /-- The host's register transaction `word`, an access of `bits` bits (30_encoding.md R78, 20_memory.md R64). -/
  | host (bits : Nat) (word : TWord)
  /-- The host stores a byte to frame memory (20_memory.md R58, R73). -/
  | hostStore (addr : Word) (value : Byte)
  /-- The host loads a byte of frame memory (R73). -/
  | hostLoad (addr : Word)
  /-- The build time has passed: the builder completes (40_configuration.md R97). -/
  | build
  /-- The engine passes the build fence and publishes the table (R98, R99). -/
  | publish
  /-- The engine processes the pixel (x, y) (42_frame_transform.md R128, R131). The platform answers its reads with
  `reply`; entry `j` of `picks` says, for sample byte `j`, which byte a race with the host gives (0: the present one). -/
  | pixel (x y : Nat) (picks : List Nat) (reply : BusReply)
  /-- The `k`-th byte write in flight completes, or gets an error response (10_state.md R54, 60_exceptions.md R179). -/
  | complete (k : Nat) (reply : BusReply)
  /-- The frame completes (42_frame_transform.md R130), or ends its abort (60_exceptions.md R185). -/
  | finish
  /-- The reset input is asserted (70_reset_and_hazards.md R197, R199). -/
  | reset
  deriving DecidableEq, Repr

/-- Frame memory: (address, byte) pairs in canonical form, addresses strictly rising and no byte that an unlisted address
reads as anyway (20_memory.md R56; assumption 1). -/
abbrev Memory := List Host.Cell

/-- The state of the block, of the frame memory it masters, and of what the host was last told. -/
structure State where
  /-- `STATUS.BUSY` is `phase ≠ idle` (R26). -/
  phase : Phase
  /-- `STATUS.BUILD_BUSY` (R26, R52). -/
  buildBusy : Bool
  /-- `STATUS.NEG_VALID` (R26). -/
  negValid : Bool
  /-- `STATUS.OVR` (R26). -/
  ovr : Bool
  /-- `STATUS.ERR_CODE` (R26). -/
  errCode : ErrorCode
  /-- `INT_STATUS.DONE` (R27). -/
  intDone : Bool
  /-- `INT_STATUS.ERR` (R27). -/
  intErr : Bool
  /-- `INT_ENABLE.DONE_EN` (R28). -/
  doneEn : Bool
  /-- `INT_ENABLE.ERR_EN` (R28). -/
  errEn : Bool
  /-- `PRESET` (R29). -/
  preset : Preset
  /-- `NEAR_CUT.NEAR` (R30). -/
  nearCut : Half
  /-- `FAR_CUT.FAR` (R31). -/
  farCut : Half
  /-- `FMT` (R32). -/
  fmt : Fmt
  /-- `GEOM` (R33). -/
  geom : Geom
  /-- `CTX_FMT.IN_FMT` (R34): a supported format, since only NEGOTIATE writes it and its reset code 0 is one (R114). -/
  ctxIn : InFormat
  /-- `CTX_FMT.OUT_FMT` (R34). -/
  ctxOut : OutFormat
  /-- `CTX_GEOM` (R35). -/
  ctxGeom : Geom
  /-- `SRC_BASE` (R36). -/
  srcBase : Word
  /-- `SRC_STRIDE` (R37). -/
  srcStride : Word
  /-- `SRC_GEOM` (R38). -/
  srcGeom : Geom
  /-- `SRC_FMT.FMT` (R39). -/
  srcFmt : FmtCode
  /-- `DST_BASE` (R40). -/
  dstBase : Word
  /-- `DST_STRIDE` (R41). -/
  dstStride : Word
  /-- `DST_GEOM` (R42). -/
  dstGeom : Geom
  /-- `DST_FMT.FMT` (R43). -/
  dstFmt : FmtCode
  /-- `LUT_ACTIVE` (R45). -/
  lutActive : Lut
  /-- `LUT_SHADOW` (R45). -/
  lutShadow : Lut
  /-- `JET_ROM` (R48): a parameter of the model; no step writes it. -/
  jetRom : Lut
  /-- `B_PRESET`, or none (R52, R55). -/
  buildPreset : Option Preset
  /-- The frame latch `F_*` (R50). -/
  frame : FrameLatch
  /-- `DONE_PX` (R51): the latest pixel first, no repeats. -/
  donePx : List Pixel
  /-- The byte writes issued and not yet completed, oldest first (R54). -/
  inflight : List Host.Cell
  /-- Frame memory (20_memory.md R56, R58). -/
  mem : Memory
  /-- The model's own: the events still to come, in order (assumption 5). -/
  inputs : List Event
  /-- The model's own: the value the latest register read returned (30_encoding.md R78; assumption 8). -/
  readData : Word
  /-- The model's own: the byte the latest host load of frame memory returned (20_memory.md R73; assumption 8). -/
  hostByte : Byte
  /-- The model's own: during a frame, what a byte held before a host store, the latest first (R73; assumption 10). -/
  raced : List Host.Cell
  /-- The model's own: how many free bytes have been used (assumption 4). -/
  freeCount : Nat
  deriving DecidableEq, Repr

/-- Why the machine stops. -/
inductive Fault where
  /-- Raised by the engine's pixel step where a frame-memory access would name an address above 0xFFFFFFFF, which does not
  exist (20_memory.md R56, R59). PROCESS refuses every such frame (42_frame_transform.md R125 check 6), so no run from reset
  raises it. Safe (assumption 17). -/
  | addressOutsideFrameMemory
  deriving DecidableEq, Repr

/-- Why a transaction has no meaning. -/
inductive Refusal where
  /-- Raised by `exec` for an instruction not modelled yet; no arm of this model uses it. Safe. -/
  | notModelled (mnemonic : String)
  /-- Raised by the three rows of register accesses at an offset that is no multiple of 4: "a model refuses it (it has no
  meaning)" (20_memory.md R64). Safe (assumption 15). -/
  | misalignedRegisterAccess
  /-- Raised by the bus for a register access that is narrower or wider than 32 bits (R64). Safe (assumption 15). -/
  | registerAccessNot32Bits
  deriving DecidableEq, Repr

/-- The frame latch after reset: unspecified by R55, so a value the model names. DESIGN CHOICE (assumption 3), unsafe. -/
def FrameLatch.reset : FrameLatch where
  preset := .none
  near := 0
  far := 0
  inFmt := .gray8
  outFmt := .rgb
  width := 0
  height := 0
  srcBase := 0
  srcStride := 0
  dstBase := 0
  dstStride := 0

/-- Every register at its reset value (R55, R197), with the palette ROM `rom` in place. `LUT_ACTIVE`, `LUT_SHADOW` and the
frame latch are unspecified by R55: the model names their values (assumptions 2 and 3). -/
def State.resetWith (rom : Lut) : State where
  phase := .idle
  buildBusy := false
  negValid := false
  ovr := false
  errCode := .none
  intDone := false
  intErr := false
  doneEn := false
  errEn := false
  preset := .none
  nearCut := 0
  farCut := 0xFFFF
  fmt := ⟨0, 0⟩
  geom := ⟨0, 0⟩
  ctxIn := .gray8
  ctxOut := .rgb
  ctxGeom := ⟨0, 0⟩
  srcBase := 0
  srcStride := 0
  srcGeom := ⟨0, 0⟩
  srcFmt := 0
  dstBase := 0
  dstStride := 0
  dstGeom := ⟨0, 0⟩
  dstFmt := 0
  lutActive := blackLut
  lutShadow := rom
  jetRom := rom
  buildPreset := none
  frame := FrameLatch.reset
  donePx := []
  inflight := []
  mem := []
  inputs := []
  readData := 0
  hostByte := 0
  raced := []
  freeCount := 0

/-- The machine right after reset (R55, R197, R198), with the default palette ROM (R102), nothing stored in frame memory
and no transaction yet. -/
def State.reset : State := State.resetWith defaultJetRom

end Sys2Proof.Machine
end

