-- ==== Sys2Proof/Machine/Operands.lean ====
section
/-! DEFINITION. Operands: the fields of `DATA` (30_encoding.md R81), the codes they hold (R83, R84,
41_negotiation_dispatch.md R107, R108), and the register values built from fields (10_state.md). -/

namespace Sys2Proof.Machine

/-! ### Fields of `DATA` (R81): zero-extended, nothing scaled; ignored bits are not stored -/

/-- Bits 15:0: `NEAR`, `FAR` or `WIDTH` (R81). -/
def lowHalf (d : Word) : Half := d.extractLsb' 0 16

/-- Bits 31:16: `HEIGHT` (R81). -/
def highHalf (d : Word) : Half := d.extractLsb' 16 16

/-- `WIDTH` in bits 15:0, `HEIGHT` in bits 31:16 (R81). -/
def geomOf (d : Word) : Geom := ⟨lowHalf d, highHalf d⟩

/-- Bits 3:0: `IN_FMT`, or the descriptor's `FMT` (R81). -/
def fmtCodeOf (d : Word) : FmtCode := d.extractLsb' 0 4

/-- `IN_FMT` in bits 3:0, `OUT_FMT` in bits 11:8, other bits ignored (R81). -/
def fmtOf (d : Word) : Fmt := ⟨fmtCodeOf d, d.extractLsb' 8 4⟩

/-- Bit 0: `DONE`'s clear bit or `DONE_EN` (R81). -/
def doneBit (d : Word) : Bool := d.getLsbD 0

/-- Bit 1: `ERR`'s clear bit or `ERR_EN` (R81). -/
def errBit (d : Word) : Bool := d.getLsbD 1

/-! ### Codes -/

/-- The preset whose code the whole 32-bit value is; `none` for an unknown value (R83). -/
def Preset.ofCode (d : Word) : Option Preset :=
  if d = 0 then some .none else if d = 1 then some .jet else Option.none

/-- The code of a preset, as `PRESET` reads (R83). -/
def Preset.code : Preset → Word
  | .none => 0
  | .jet => 1

/-- The supported input format of a code; `none` for the unsupported codes 2 to 15 (R107). -/
def InFormat.ofCode (c : FmtCode) : Option InFormat :=
  if c = 0 then some .gray8 else if c = 1 then some .gray16le else none

/-- The code of an input format (R107). -/
def InFormat.code : InFormat → FmtCode
  | .gray8 => 0
  | .gray16le => 1

/-- `IBPP`: source bytes per pixel (R107). -/
def InFormat.bytes : InFormat → Nat
  | .gray8 => 1
  | .gray16le => 2

/-- `MAXV`: the largest sample (R107). -/
def InFormat.maxv : InFormat → Nat
  | .gray8 => 255
  | .gray16le => 65535

/-- The supported output format of a code; `none` for the unsupported codes 4 to 15 (R108). -/
def OutFormat.ofCode (c : FmtCode) : Option OutFormat :=
  if c = 0 then some .rgb else if c = 1 then some .bgr else if c = 2 then some .rgba else if c = 3 then some .bgra
  else none

/-- The code of an output format (R108). -/
def OutFormat.code : OutFormat → FmtCode
  | .rgb => 0
  | .bgr => 1
  | .rgba => 2
  | .bgra => 3

/-- `OBPP`: destination bytes per pixel (R108). -/
def OutFormat.bytes : OutFormat → Nat
  | .rgb | .bgr => 3
  | .rgba | .bgra => 4

/-- The number of an error code (60_exceptions.md R174). -/
def ErrorCode.code : ErrorCode → BitVec 3
  | .none => 0
  | .invalidConfiguration => 1
  | .unsupportedFormat => 2
  | .invalidFrame => 3
  | .illegalCommand => 4
  | .busError => 5

/-! ### Register values from fields; reserved bits read 0 (10_state.md R23) -/

/-- A 16-bit field in bits 15:0 (R30, R31). -/
def halfWord (h : Half) : Word := 0#16 ++ h

/-- `WIDTH` in bits 15:0, `HEIGHT` in bits 31:16 (R33). -/
def Geom.word (g : Geom) : Word := g.height ++ g.width

/-- `IN_FMT` in bits 3:0, `OUT_FMT` in bits 11:8 (R32, R34). -/
def fmtWord (inCode outCode : FmtCode) : Word := 0#20 ++ outCode ++ 0#4 ++ inCode

/-- A descriptor's format identifier in bits 3:0 (R39, R43). -/
def fmtCodeWord (c : FmtCode) : Word := 0#28 ++ c

/-- The identification constant (R24). -/
def idWord : Word := 0x46434D01#32

end Sys2Proof.Machine
end

