-- ==== Sys2Proof/Machine/Flags.lean ====
section
/-! DEFINITION. The flags (10_state.md R44): `STATUS` (R26), `INT_STATUS` (R27), `INT_ENABLE` (R28), and the interrupt
output (60_exceptions.md R188). -/

namespace Sys2Proof.Machine

/-- `STATUS.BUSY`: 1 from the acceptance of a PROCESS until its frame completes or aborts (R26). -/
def State.busy (s : State) : Bool := decide (s.phase ≠ .idle)

/-- The value of `STATUS`: 21 zero bits, `ERR_CODE`, 4 zero bits, `OVR`, `NEG_VALID`, `BUILD_BUSY`, `BUSY` (R26,
43_control.md R156). -/
def State.statusWord (s : State) : Word :=
  0#21 ++ s.errCode.code ++ 0#4 ++ BitVec.ofBool s.ovr ++ BitVec.ofBool s.negValid ++ BitVec.ofBool s.buildBusy
    ++ BitVec.ofBool s.busy

/-- Two flags in bits 1 and 0, the rest 0 (R27, R28). -/
def flagPairWord (err done : Bool) : Word := 0#30 ++ BitVec.ofBool err ++ BitVec.ofBool done

/-- The interrupt output: level-sensitive, active high (R188). -/
def State.irq (s : State) : Bool := (s.intDone && s.doneEn) || (s.intErr && s.errEn)

end Sys2Proof.Machine
end

