-- ==== Sys2Proof/Machine/Ops.lean ====
section
/-! DEFINITION. The named operations: frame memory (20_memory.md), error recording and the return from it
(60_exceptions.md), and what a register read hands to the host. -/

namespace Sys2Proof.Machine

/-! ### Frame memory, one byte at a time (20_memory.md R56, R66) -/

/-- The byte at an address (R56). -/
def readByte : Memory → Nat → Byte
  | [], _ => Config.unlistedByte
  | (x, v) :: rest, a => if a = x then v else readByte rest a

/-- Store one byte, keeping the canonical form: addresses rise, and a byte an unlisted address reads as is not listed. -/
def writeByte : Memory → Nat → Byte → Memory
  | [], a, b => if b = Config.unlistedByte then [] else [(a, b)]
  | (x, v) :: rest, a, b =>
    if a < x then (if b = Config.unlistedByte then (x, v) :: rest else (a, b) :: (x, v) :: rest)
    else if a = x then (if b = Config.unlistedByte then rest else (a, b) :: rest)
    else (x, v) :: writeByte rest a b

/-- The canonical form: addresses strictly rising, each below 2^32, and no byte listed that an unlisted address reads as. -/
def Memory.wf (m : Memory) : Bool :=
  decide (List.Pairwise (fun a b => a < b) (m.map (·.1))) &&
  m.all fun c => decide (c.1 < Config.memBytes) && decide (c.2 ≠ Config.unlistedByte)

/-- The number whose bytes, the lowest first, are `bs`: `sum of byte(j) * 256^j` (R59). -/
def leValue : List Byte → Nat
  | [] => 0
  | b :: rest => b.toNat + 256 * leValue rest

/-- `MemRead(addr, n)` through a reader of single bytes (R14, R59): little-endian. -/
def memReadBy (rd : Nat → Byte) (addr n : Nat) : Nat :=
  leValue ((List.range n).map fun j => rd (addr + j))

/-- `MemRead(addr, n)` of frame memory (R59). -/
def memRead (m : Memory) (addr n : Nat) : Nat := memReadBy (readByte m) addr n

/-- The byte writes of `MemWrite(addr, n, v)`: byte `j` of `v` goes to `addr + j` (R60, 42_frame_transform.md R144). -/
def memWriteCells (addr : Nat) : List Byte → List Host.Cell
  | [] => []
  | b :: rest => (addr, b) :: memWriteCells (addr + 1) rest

/-- Perform byte writes, the first in the list first (R60, R66). -/
def writeCells (m : Memory) : List Host.Cell → Memory
  | [] => m
  | (a, b) :: rest => writeCells (writeByte m a b) rest

/-- Whether `n` bytes from `addr` on exist: addresses 0 to 0xFFFFFFFF (R56). -/
def inFrameMemory (addr n : Nat) : Bool := decide (addr + n ≤ Config.memBytes)

/-- The bytes a read of `a` may give while the host races with the frame: the present one, then what the byte held before
each host store of the frame, the latest first (R73). -/
def raceCandidates (m : Memory) (raced : List Host.Cell) (a : Nat) : List Byte :=
  readByte m a :: (raced.filter fun c => c.1 == a).map (·.2)

/-- The candidate a race's `pick` names; a pick that names none is the present byte (R73; assumption 10). -/
def racedByte (m : Memory) (raced : List Host.Cell) (pick a : Nat) : Byte :=
  (raceCandidates m raced a).getD pick (readByte m a)

/-- `MemRead(addr, n)` during a frame: byte `j` by the `j`-th pick (R59, R73). -/
def memReadRaced (m : Memory) (raced : List Host.Cell) (picks : List Nat) (addr n : Nat) : Nat :=
  leValue ((List.range n).map fun j => racedByte m raced (picks.getD j 0) (addr + j))

/-- The bytes at `addrs` take any value: the free bytes from number `n` on (60_exceptions.md R185,
70_reset_and_hazards.md R199; assumption 4). -/
def scramble (m : Memory) (n : Nat) : List Nat → Memory
  | [] => m
  | a :: rest => scramble (writeByte m a (Config.freeByte n)) (n + 1) rest

/-! ### Errors: the block's only exceptions (60_exceptions.md R174, R181, R184, R186) -/

/-- Recording an error: `STATUS.ERR_CODE <- c`, overwriting any earlier code, and `INT_STATUS.ERR <- 1` (R181). No state is
saved and no mode changes (R184). -/
def recordError (c : ErrorCode) (s : State) : State := { s with errCode := c, intErr := true }

/-- `raise E` in a transaction: it has no other effect than the recording (00_scope.md R15, R181). -/
def raiseError (c : ErrorCode) (s : State) : Host.Outcome State Fault Refusal := .next (recordError c s)

/-- The return from an error, its first half: `CLEAR_ERROR` clears the code and the overrun flag (R186, 43_control.md
R147). -/
def clearError (s : State) : State := { s with errCode := .none, ovr := false }

/-- The return from an error, its second half: writing 1 to a bit of `INT_STATUS` clears it, 0 leaves it (R186, R150). -/
def clearInterrupts (done err : Bool) (s : State) : State :=
  { s with intDone := s.intDone && !done, intErr := s.intErr && !err }

/-! ### Register reads -/

/-- A register read returns `v` to the host and has no side effect (20_memory.md R67, 30_encoding.md R78). -/
def answer (v : Word) (s : State) : Host.Outcome State Fault Refusal := .next { s with readData := v }

end Sys2Proof.Machine
end

