-- ==== Sys2Proof/Machine/Frame.lean ====
section
/-! DEFINITION. The geometry of a frame: which pixels it has and which bytes of frame memory they are
(42_frame_transform.md R125, R127, R132, R145), and the checks PROCESS makes. -/

namespace Sys2Proof.Machine

/-- The pixels of a `w` by `h` frame, row by row (R127). The order has no meaning (R128). -/
def pixelsOf (w h : Nat) : List Pixel :=
  (List.range h).flatMap fun y => (List.range w).map fun x => (x, y)

/-- The pixels of the latched frame: `[0, F_W) x [0, F_H)` (R127). -/
def FrameLatch.pixels (f : FrameLatch) : List Pixel := pixelsOf f.width.toNat f.height.toNat

/-- Whether (x, y) is a pixel of the latched frame (R127). -/
def FrameLatch.hasPixel (f : FrameLatch) (p : Pixel) : Bool :=
  decide (p.1 < f.width.toNat) && decide (p.2 < f.height.toNat)

/-- The byte address of a source sample: `F_SB + y*F_SS + x*IBPP`, computed exactly (R132). -/
def FrameLatch.srcAddr (f : FrameLatch) (p : Pixel) : Nat :=
  f.srcBase.toNat + p.2 * f.srcStride.toNat + p.1 * f.inFmt.bytes

/-- The byte address of a destination pixel: `F_DB + y*F_DS + x*OBPP`, computed exactly (R132). -/
def FrameLatch.dstAddr (f : FrameLatch) (p : Pixel) : Nat :=
  f.dstBase.toNat + p.2 * f.dstStride.toNat + p.1 * f.outFmt.bytes

/-- The destination pixel bytes of the frame, row padding left out (R145). -/
def FrameLatch.dstBytes (f : FrameLatch) : List Nat :=
  f.pixels.flatMap fun p => (List.range f.outFmt.bytes).map fun j => f.dstAddr p + j

/-- One past the last byte of a plane: `base + (H-1)*stride + W*bpp`, on unbounded integers (R125). -/
def planeEnd (base stride w h bpp : Nat) : Int := base + ((h : Int) - 1) * stride + w * bpp

/-- Whether `a` lies in the destination plane of the latched frame, row padding included: `[F_DB, DEND)` (R125). -/
def FrameLatch.inDstPlane (f : FrameLatch) (a : Nat) : Bool :=
  decide (f.dstBase.toNat ≤ a) &&
  decide ((a : Int) < planeEnd f.dstBase.toNat f.dstStride.toNat f.width.toNat f.height.toNat f.outFmt.bytes)

/-- Whether the byte ranges `[a, aEnd)` and `[b, bEnd)` intersect (R125 check 7). -/
def rangesMeet (a aEnd b bEnd : Int) : Bool := decide (max a b < min aEnd bEnd)

/-- `SEND`: one past the last byte of the source plane a PROCESS would use (R125). -/
def State.srcEnd (s : State) : Int :=
  planeEnd s.srcBase.toNat s.srcStride.toNat s.ctxGeom.width.toNat s.ctxGeom.height.toNat s.ctxIn.bytes

/-- `DEND`: one past the last byte of the destination plane a PROCESS would use (R125). -/
def State.dstEnd (s : State) : Int :=
  planeEnd s.dstBase.toNat s.dstStride.toNat s.ctxGeom.width.toNat s.ctxGeom.height.toNat s.ctxOut.bytes

/-- `check_frame()` (R125): the error of the first check that fails, in the order 1 to 7 (60_exceptions.md R182), or none.
No check reads frame memory. -/
def checkFrame (s : State) : Option ErrorCode :=
  -- 1: no negotiated format
  if s.negValid = false then some .unsupportedFormat
  -- 2: a null plane pointer
  else if s.srcBase = 0 ∨ s.dstBase = 0 then some .invalidFrame
  -- 3: a descriptor format that is not the negotiated one
  else if s.srcFmt ≠ s.ctxIn.code ∨ s.dstFmt ≠ s.ctxOut.code then some .unsupportedFormat
  -- 4: a descriptor geometry that is not the negotiated one
  else if s.srcGeom ≠ s.ctxGeom ∨ s.dstGeom ≠ s.ctxGeom then some .unsupportedFormat
  -- 5: a stride shorter than one row of pixels
  else if s.srcStride.toNat < s.ctxGeom.width.toNat * s.ctxIn.bytes
      ∨ s.dstStride.toNat < s.ctxGeom.width.toNat * s.ctxOut.bytes then some .invalidFrame
  -- 6: a plane that runs past address 0xFFFFFFFF
  else if (Config.memBytes : Int) < s.srcEnd ∨ (Config.memBytes : Int) < s.dstEnd then some .invalidFrame
  -- 7: the planes' byte ranges intersect
  else if rangesMeet s.srcBase.toNat s.srcEnd s.dstBase.toNat s.dstEnd then some .invalidFrame
  else none

/-- The values `latch_frame()` copies (10_state.md R50, R126). -/
def State.latched (s : State) : FrameLatch where
  preset := s.preset
  near := s.nearCut
  far := s.farCut
  inFmt := s.ctxIn
  outFmt := s.ctxOut
  width := s.ctxGeom.width
  height := s.ctxGeom.height
  srcBase := s.srcBase
  srcStride := s.srcStride
  dstBase := s.dstBase
  dstStride := s.dstStride

/-- `latch_frame(); STATUS.BUSY <- 1; DONE_PX <- {}` (R126): one atomic step; the frame then waits at the build fence
(40_configuration.md R98). The record of host races belongs to the new frame and is empty. -/
def latchFrame (s : State) : State :=
  { s with frame := s.latched, phase := .fenced, donePx := [], raced := [] }

end Sys2Proof.Machine
end

