-- ==== Sys2Proof/Machine/Commands.lean ====
section
/-! DEFINITION. Commands: writes of `CMD` (41_negotiation_dispatch.md R112, 42_frame_transform.md R124, 43_control.md
R146 to R149). -/

namespace Sys2Proof.Machine

/-- A NEGOTIATE or PROCESS written while `BUSY` = 1 is dropped: no effect but `STATUS.OVR <- 1` (R149). -/
def dropCommand (s : State) : Host.Outcome State Fault Refusal := .next { s with ovr := true }

/-- An illegal command word raises `IllegalCommand` and has no other effect, also while `BUSY` = 1 (R148). -/
def illegalCommand (s : State) : Host.Outcome State Fault Refusal := raiseError .illegalCommand s

/-- A successful NEGOTIATE stores the format and geometry in the context and marks it valid (R112). -/
def storeContext (i : InFormat) (o : OutFormat) (g : Geom) (s : State) : State :=
  { s with ctxIn := i, ctxOut := o, ctxGeom := g, negValid := true }

/-- `CMD NOP`: no effect (R146). -/
def execCmdNop (s : State) : Host.Outcome State Fault Refusal := .next s

/-- `CMD NEGOTIATE` (R112): the staged format and geometry become the context if both codes are supported and both sizes
are at least 1; otherwise `UnsupportedFormat`, the context unchanged. -/
def execCmdNegotiate (s : State) : Host.Outcome State Fault Refusal :=
  if s.busy then dropCommand s
  else
    match InFormat.ofCode s.fmt.inFmt, OutFormat.ofCode s.fmt.outFmt with
    | some i, some o =>
      if s.geom.width = 0 ∨ s.geom.height = 0 then raiseError .unsupportedFormat s
      else .next (storeContext i o s.geom s)
    | _, _ => raiseError .unsupportedFormat s

/-- `CMD PROCESS` (R124): dropped while busy; else the checks in order, the first that fails raises its error with no
other effect; else the frame is accepted. Its pixel work is the engine's steps. -/
def execCmdProcess (s : State) : Host.Outcome State Fault Refusal :=
  if s.busy then dropCommand s
  else
    match checkFrame s with
    | some e => raiseError e s
    | none => .next (latchFrame s)

/-- `CMD CLEAR_ERROR` (R147), also while `BUSY` = 1. -/
def execCmdClearError (s : State) : Host.Outcome State Fault Refusal := .next (clearError s)

/-- `OP` 0x04 to 0x07 (R148). -/
def execCmdIllegal04 (_lo : BitVec 2) (s : State) : Host.Outcome State Fault Refusal := illegalCommand s

/-- `OP` 0x08 to 0x0F (R148). -/
def execCmdIllegal08 (_lo : BitVec 3) (s : State) : Host.Outcome State Fault Refusal := illegalCommand s

/-- `OP` 0x10 to 0x1F (R148). -/
def execCmdIllegal10 (_lo : BitVec 4) (s : State) : Host.Outcome State Fault Refusal := illegalCommand s

/-- `OP` 0x20 to 0x3F (R148). -/
def execCmdIllegal20 (_lo : BitVec 5) (s : State) : Host.Outcome State Fault Refusal := illegalCommand s

/-- `OP` 0x40 to 0x7F (R148). -/
def execCmdIllegal40 (_lo : BitVec 6) (s : State) : Host.Outcome State Fault Refusal := illegalCommand s

/-- `OP` 0x80 to 0xFF (R148). -/
def execCmdIllegal80 (_lo : BitVec 7) (s : State) : Host.Outcome State Fault Refusal := illegalCommand s

/-- `DATA[31:8]` not 0, whatever `OP` (R148). -/
def execCmdIllegalHigh (_data : Word) (s : State) : Host.Outcome State Fault Refusal := illegalCommand s

end Sys2Proof.Machine
end

