-- ==== Sys2Proof/Machine/Configuration.lean ====
section
/-! DEFINITION. The configuration registers and the rebuild they trigger (40_configuration.md R89 to R92, R96), and the
interrupt registers' writes (43_control.md R150, R151). -/

namespace Sys2Proof.Machine

/-- `trigger_rebuild()`: `B_PRESET <- PRESET; STATUS.BUILD_BUSY <- 1`; a build in progress is restarted (R96). -/
def triggerRebuild (s : State) : State := { s with buildPreset := some s.preset, buildBusy := true }

/-- `WR PRESET, p` (R89): the whole 32 bits are the code; an unknown one raises `InvalidConfiguration` and changes neither
`PRESET` nor the builder nor the banks (R101). -/
def execWrPreset (data : Word) (s : State) : Host.Outcome State Fault Refusal :=
  match Preset.ofCode data with
  | some p => .next (triggerRebuild { s with preset := p })
  | none => raiseError .invalidConfiguration s

/-- `WR NEAR_CUT, d` (R90): no value is refused (R92). -/
def execWrNearCut (data : Word) (s : State) : Host.Outcome State Fault Refusal :=
  .next (triggerRebuild { s with nearCut := lowHalf data })

/-- `WR FAR_CUT, d` (R91): no value is refused (R92). -/
def execWrFarCut (data : Word) (s : State) : Host.Outcome State Fault Refusal :=
  .next (triggerRebuild { s with farCut := lowHalf data })

/-- `WR INT_STATUS, d` (R150): write 1 to clear. Steps are atomic (60_exceptions.md R183), so a bit the block sets "in the
same step" is set by a later step and reads 1 (assumption 16). -/
def execWrIntStatus (data : Word) (s : State) : Host.Outcome State Fault Refusal :=
  .next (clearInterrupts (doneBit data) (errBit data) s)

/-- `WR INT_ENABLE, d` (R151): the interrupt output follows at once. -/
def execWrIntEnable (data : Word) (s : State) : Host.Outcome State Fault Refusal :=
  .next { s with doneEn := doneBit data, errEn := errBit data }

end Sys2Proof.Machine
end

