-- ==== Sys2Proof/Machine/Descriptors.lean ====
section
/-! DEFINITION. The staging registers (41_negotiation_dispatch.md R110, R111) and the frame descriptors
(42_frame_transform.md R116 to R123): each write stores its operand and has no other effect, also while `BUSY` = 1. -/

namespace Sys2Proof.Machine

/-- `WR FMT, d` (R110): any code is stored. -/
def execWrFmt (data : Word) (s : State) : Host.Outcome State Fault Refusal := .next { s with fmt := fmtOf data }

/-- `WR GEOM, d` (R111). -/
def execWrGeom (data : Word) (s : State) : Host.Outcome State Fault Refusal := .next { s with geom := geomOf data }

/-- `WR SRC_BASE, d` (R116). -/
def execWrSrcBase (data : Word) (s : State) : Host.Outcome State Fault Refusal := .next { s with srcBase := data }

/-- `WR SRC_STRIDE, d` (R117). -/
def execWrSrcStride (data : Word) (s : State) : Host.Outcome State Fault Refusal := .next { s with srcStride := data }

/-- `WR SRC_GEOM, d` (R118). -/
def execWrSrcGeom (data : Word) (s : State) : Host.Outcome State Fault Refusal :=
  .next { s with srcGeom := geomOf data }

/-- `WR SRC_FMT, d` (R119). -/
def execWrSrcFmt (data : Word) (s : State) : Host.Outcome State Fault Refusal :=
  .next { s with srcFmt := fmtCodeOf data }

/-- `WR DST_BASE, d` (R120). -/
def execWrDstBase (data : Word) (s : State) : Host.Outcome State Fault Refusal := .next { s with dstBase := data }

/-- `WR DST_STRIDE, d` (R121). -/
def execWrDstStride (data : Word) (s : State) : Host.Outcome State Fault Refusal := .next { s with dstStride := data }

/-- `WR DST_GEOM, d` (R122). -/
def execWrDstGeom (data : Word) (s : State) : Host.Outcome State Fault Refusal :=
  .next { s with dstGeom := geomOf data }

/-- `WR DST_FMT, d` (R123). -/
def execWrDstFmt (data : Word) (s : State) : Host.Outcome State Fault Refusal :=
  .next { s with dstFmt := fmtCodeOf data }

end Sys2Proof.Machine
end

