-- ==== Sys2Proof/Machine/Reads.lean ====
section
/-! DEFINITION. Register reads (43_control.md R154 to R173): each returns the register's value with its reserved bits 0 and
has no side effect (20_memory.md R67). -/

namespace Sys2Proof.Machine

/-- `RD ID` (R154): the hard-wired constant (10_state.md R24). -/
def execRdId (_ignored : Word) (s : State) : Host.Outcome State Fault Refusal := answer idWord s

/-- `RD CMD` (R155): `CMD` holds no state (10_state.md R25). -/
def execRdCmd (_ignored : Word) (s : State) : Host.Outcome State Fault Refusal := answer 0 s

/-- `RD STATUS` (R156). -/
def execRdStatus (_ignored : Word) (s : State) : Host.Outcome State Fault Refusal := answer s.statusWord s

/-- `RD INT_STATUS` (R157). -/
def execRdIntStatus (_ignored : Word) (s : State) : Host.Outcome State Fault Refusal := answer (flagPairWord s.intErr s.intDone) s

/-- `RD INT_ENABLE` (R158). -/
def execRdIntEnable (_ignored : Word) (s : State) : Host.Outcome State Fault Refusal := answer (flagPairWord s.errEn s.doneEn) s

/-- `RD PRESET` (R159). -/
def execRdPreset (_ignored : Word) (s : State) : Host.Outcome State Fault Refusal := answer s.preset.code s

/-- `RD NEAR_CUT` (R160). -/
def execRdNearCut (_ignored : Word) (s : State) : Host.Outcome State Fault Refusal := answer (halfWord s.nearCut) s

/-- `RD FAR_CUT` (R161). -/
def execRdFarCut (_ignored : Word) (s : State) : Host.Outcome State Fault Refusal := answer (halfWord s.farCut) s

/-- `RD FMT` (R162). -/
def execRdFmt (_ignored : Word) (s : State) : Host.Outcome State Fault Refusal := answer (fmtWord s.fmt.inFmt s.fmt.outFmt) s

/-- `RD GEOM` (R163). -/
def execRdGeom (_ignored : Word) (s : State) : Host.Outcome State Fault Refusal := answer s.geom.word s

/-- `RD CTX_FMT` (R164). -/
def execRdCtxFmt (_ignored : Word) (s : State) : Host.Outcome State Fault Refusal := answer (fmtWord s.ctxIn.code s.ctxOut.code) s

/-- `RD CTX_GEOM` (R165). -/
def execRdCtxGeom (_ignored : Word) (s : State) : Host.Outcome State Fault Refusal := answer s.ctxGeom.word s

/-- `RD SRC_BASE` (R166): the register, not the latched `F_SB`. -/
def execRdSrcBase (_ignored : Word) (s : State) : Host.Outcome State Fault Refusal := answer s.srcBase s

/-- `RD SRC_STRIDE` (R167). -/
def execRdSrcStride (_ignored : Word) (s : State) : Host.Outcome State Fault Refusal := answer s.srcStride s

/-- `RD SRC_GEOM` (R168). -/
def execRdSrcGeom (_ignored : Word) (s : State) : Host.Outcome State Fault Refusal := answer s.srcGeom.word s

/-- `RD SRC_FMT` (R169). -/
def execRdSrcFmt (_ignored : Word) (s : State) : Host.Outcome State Fault Refusal := answer (fmtCodeWord s.srcFmt) s

/-- `RD DST_BASE` (R170). -/
def execRdDstBase (_ignored : Word) (s : State) : Host.Outcome State Fault Refusal := answer s.dstBase s

/-- `RD DST_STRIDE` (R171). -/
def execRdDstStride (_ignored : Word) (s : State) : Host.Outcome State Fault Refusal := answer s.dstStride s

/-- `RD DST_GEOM` (R172). -/
def execRdDstGeom (_ignored : Word) (s : State) : Host.Outcome State Fault Refusal := answer s.dstGeom.word s

/-- `RD DST_FMT` (R173). -/
def execRdDstFmt (_ignored : Word) (s : State) : Host.Outcome State Fault Refusal := answer (fmtCodeWord s.dstFmt) s

end Sys2Proof.Machine
end

