-- ==== Sys2Proof/Machine/Unmapped.lean ====
section
/-! DEFINITION. Transactions with no register behind them: writes of read-only registers (43_control.md R152), unmapped
offsets (R153), and the offsets that are no multiple of 4 (20_memory.md R64). -/

namespace Sys2Proof.Machine

/-- A write that is ignored: no state changes (R152, R153). -/
def ignoreWrite (s : State) : Host.Outcome State Fault Refusal := .next s

/-- An unmapped offset: a read returns 0, a write is ignored (R153). -/
def unmappedAccess (we : Bool) (s : State) : Host.Outcome State Fault Refusal :=
  if we then ignoreWrite s else answer 0 s

/-- A misaligned register access has no meaning: refused (R64). -/
def refuseMisaligned (_s : State) : Host.Outcome State Fault Refusal := .refused .misalignedRegisterAccess

/-- `WR ID`: read-only, ignored (R152). -/
def execWrId (_ignored : Word) (s : State) : Host.Outcome State Fault Refusal := ignoreWrite s

/-- `WR STATUS`: read-only, ignored (R152). -/
def execWrStatus (_ignored : Word) (s : State) : Host.Outcome State Fault Refusal := ignoreWrite s

/-- `WR CTX_FMT`: read-only, ignored (R152). -/
def execWrCtxFmt (_ignored : Word) (s : State) : Host.Outcome State Fault Refusal := ignoreWrite s

/-- `WR CTX_GEOM`: read-only, ignored (R152). -/
def execWrCtxGeom (_ignored : Word) (s : State) : Host.Outcome State Fault Refusal := ignoreWrite s

/-- Offsets 0x050 to 0x05C (R153). -/
def execUnmapped050 (we : Bool) (_sel : BitVec 2) (_ignored : Word) (s : State) : Host.Outcome State Fault Refusal :=
  unmappedAccess we s

/-- Offsets 0x060 to 0x07C (R153). -/
def execUnmapped060 (we : Bool) (_sel : BitVec 3) (_ignored : Word) (s : State) : Host.Outcome State Fault Refusal :=
  unmappedAccess we s

/-- Offsets 0x080 to 0x0FC (R153). -/
def execUnmapped080 (we : Bool) (_sel : BitVec 5) (_ignored : Word) (s : State) : Host.Outcome State Fault Refusal :=
  unmappedAccess we s

/-- Offsets 0x100 to 0x1FC (R153). -/
def execUnmapped100 (we : Bool) (_sel : BitVec 6) (_ignored : Word) (s : State) : Host.Outcome State Fault Refusal :=
  unmappedAccess we s

/-- Offsets 0x200 to 0x3FC (R153). -/
def execUnmapped200 (we : Bool) (_sel : BitVec 7) (_ignored : Word) (s : State) : Host.Outcome State Fault Refusal :=
  unmappedAccess we s

/-- Offsets 0x400 to 0x7FC (R153). -/
def execUnmapped400 (we : Bool) (_sel : BitVec 8) (_ignored : Word) (s : State) : Host.Outcome State Fault Refusal :=
  unmappedAccess we s

/-- Offsets 0x800 to 0xFFC (R153). -/
def execUnmapped800 (we : Bool) (_sel : BitVec 9) (_ignored : Word) (s : State) : Host.Outcome State Fault Refusal :=
  unmappedAccess we s

/-- `OFF[1:0]` = 01 (R64). -/
def execMisaligned01 (_we : Bool) (_hi : BitVec 10) (_data : Word) (s : State) : Host.Outcome State Fault Refusal :=
  refuseMisaligned s

/-- `OFF[1:0]` = 10 (R64). -/
def execMisaligned10 (_we : Bool) (_hi : BitVec 10) (_data : Word) (s : State) : Host.Outcome State Fault Refusal :=
  refuseMisaligned s

/-- `OFF[1:0]` = 11 (R64). -/
def execMisaligned11 (_we : Bool) (_hi : BitVec 10) (_data : Word) (s : State) : Host.Outcome State Fault Refusal :=
  refuseMisaligned s

end Sys2Proof.Machine
end

