-- ==== Sys2Proof/Machine/Dispatch.lean ====
section
/-! DEFINITION. The meaning of every host transaction: one arm per constructor, each one call of its meaning. -/

namespace Sys2Proof.Machine

def exec (i : Instr) (s : State) : Host.Outcome State Fault Refusal :=
  match i with
  | .cmdNop => Sys2Proof.Machine.execCmdNop s
  | .cmdNegotiate => Sys2Proof.Machine.execCmdNegotiate s
  | .cmdProcess => Sys2Proof.Machine.execCmdProcess s
  | .cmdClearError => Sys2Proof.Machine.execCmdClearError s
  | .cmdIllegal04 lo => Sys2Proof.Machine.execCmdIllegal04 lo s
  | .cmdIllegal08 lo => Sys2Proof.Machine.execCmdIllegal08 lo s
  | .cmdIllegal10 lo => Sys2Proof.Machine.execCmdIllegal10 lo s
  | .cmdIllegal20 lo => Sys2Proof.Machine.execCmdIllegal20 lo s
  | .cmdIllegal40 lo => Sys2Proof.Machine.execCmdIllegal40 lo s
  | .cmdIllegal80 lo => Sys2Proof.Machine.execCmdIllegal80 lo s
  | .cmdIllegalHigh data => Sys2Proof.Machine.execCmdIllegalHigh data s
  | .rdId ignored => Sys2Proof.Machine.execRdId ignored s
  | .rdCmd ignored => Sys2Proof.Machine.execRdCmd ignored s
  | .rdStatus ignored => Sys2Proof.Machine.execRdStatus ignored s
  | .rdIntStatus ignored => Sys2Proof.Machine.execRdIntStatus ignored s
  | .rdIntEnable ignored => Sys2Proof.Machine.execRdIntEnable ignored s
  | .rdPreset ignored => Sys2Proof.Machine.execRdPreset ignored s
  | .rdNearCut ignored => Sys2Proof.Machine.execRdNearCut ignored s
  | .rdFarCut ignored => Sys2Proof.Machine.execRdFarCut ignored s
  | .rdFmt ignored => Sys2Proof.Machine.execRdFmt ignored s
  | .rdGeom ignored => Sys2Proof.Machine.execRdGeom ignored s
  | .rdCtxFmt ignored => Sys2Proof.Machine.execRdCtxFmt ignored s
  | .rdCtxGeom ignored => Sys2Proof.Machine.execRdCtxGeom ignored s
  | .rdSrcBase ignored => Sys2Proof.Machine.execRdSrcBase ignored s
  | .rdSrcStride ignored => Sys2Proof.Machine.execRdSrcStride ignored s
  | .rdSrcGeom ignored => Sys2Proof.Machine.execRdSrcGeom ignored s
  | .rdSrcFmt ignored => Sys2Proof.Machine.execRdSrcFmt ignored s
  | .rdDstBase ignored => Sys2Proof.Machine.execRdDstBase ignored s
  | .rdDstStride ignored => Sys2Proof.Machine.execRdDstStride ignored s
  | .rdDstGeom ignored => Sys2Proof.Machine.execRdDstGeom ignored s
  | .rdDstFmt ignored => Sys2Proof.Machine.execRdDstFmt ignored s
  | .wrId ignored => Sys2Proof.Machine.execWrId ignored s
  | .wrStatus ignored => Sys2Proof.Machine.execWrStatus ignored s
  | .wrIntStatus data => Sys2Proof.Machine.execWrIntStatus data s
  | .wrIntEnable data => Sys2Proof.Machine.execWrIntEnable data s
  | .wrPreset data => Sys2Proof.Machine.execWrPreset data s
  | .wrNearCut data => Sys2Proof.Machine.execWrNearCut data s
  | .wrFarCut data => Sys2Proof.Machine.execWrFarCut data s
  | .wrFmt data => Sys2Proof.Machine.execWrFmt data s
  | .wrGeom data => Sys2Proof.Machine.execWrGeom data s
  | .wrCtxFmt ignored => Sys2Proof.Machine.execWrCtxFmt ignored s
  | .wrCtxGeom ignored => Sys2Proof.Machine.execWrCtxGeom ignored s
  | .wrSrcBase data => Sys2Proof.Machine.execWrSrcBase data s
  | .wrSrcStride data => Sys2Proof.Machine.execWrSrcStride data s
  | .wrSrcGeom data => Sys2Proof.Machine.execWrSrcGeom data s
  | .wrSrcFmt data => Sys2Proof.Machine.execWrSrcFmt data s
  | .wrDstBase data => Sys2Proof.Machine.execWrDstBase data s
  | .wrDstStride data => Sys2Proof.Machine.execWrDstStride data s
  | .wrDstGeom data => Sys2Proof.Machine.execWrDstGeom data s
  | .wrDstFmt data => Sys2Proof.Machine.execWrDstFmt data s
  | .unmapped050 we sel ignored => Sys2Proof.Machine.execUnmapped050 we sel ignored s
  | .unmapped060 we sel ignored => Sys2Proof.Machine.execUnmapped060 we sel ignored s
  | .unmapped080 we sel ignored => Sys2Proof.Machine.execUnmapped080 we sel ignored s
  | .unmapped100 we sel ignored => Sys2Proof.Machine.execUnmapped100 we sel ignored s
  | .unmapped200 we sel ignored => Sys2Proof.Machine.execUnmapped200 we sel ignored s
  | .unmapped400 we sel ignored => Sys2Proof.Machine.execUnmapped400 we sel ignored s
  | .unmapped800 we sel ignored => Sys2Proof.Machine.execUnmapped800 we sel ignored s
  | .misaligned01 we hi data => Sys2Proof.Machine.execMisaligned01 we hi data s
  | .misaligned10 we hi data => Sys2Proof.Machine.execMisaligned10 we hi data s
  | .misaligned11 we hi data => Sys2Proof.Machine.execMisaligned11 we hi data s

end Sys2Proof.Machine
end

