-- ==== Sys2Proof/Machine/Pixel.lean ====
section
/-! DEFINITION. The per-pixel routine's arithmetic (42_frame_transform.md R131 to R144): fetch, normalizer, color and
output formatter, on latched values only. -/

namespace Sys2Proof.Machine

/-- The effective near cut `n = min(F_NEAR, MAXV(F_IN))` (R136). -/
def FrameLatch.effNear (f : FrameLatch) : Nat := min f.near.toNat f.inFmt.maxv

/-- The effective far cut `f = min(F_FAR, MAXV(F_IN))` (R136). -/
def FrameLatch.effFar (f : FrameLatch) : Nat := min f.far.toNat f.inFmt.maxv

/-- The normalized index on unbounded integers (R137): floor division of the exact signed product, clamped, where `f > n`;
else 0 up to `n` and 255 above it (R138). -/
def normalizedIndex (n f v : Nat) : Int :=
  if n < f then clamp (Int.fdiv (((v : Int) - (n : Int)) * 255) ((f : Int) - (n : Int))) 0 255
  else if v ≤ n then 0 else 255

/-- `idx(v)` as the 8-bit index it is (R137, R140). -/
def FrameLatch.idx (f : FrameLatch) (v : Nat) : Byte := BitVec.ofInt 8 (normalizedIndex f.effNear f.effFar v)

/-- The NONE passthrough `(q, q, q)` with `q = (v * 255) // MAXV(F_IN)` (R135). -/
def noneColor (i : InFormat) (v : Nat) : Rgb :=
  let q : Byte := BitVec.ofNat 8 (v * 255 / i.maxv)
  ⟨q, q, q⟩

/-- `color(v)` on the latched preset: passthrough for NONE, a lookup in the active bank for JET (R134, R142). -/
def FrameLatch.color (f : FrameLatch) (active : Lut) (v : Nat) : Rgb :=
  match f.preset with
  | .none => noneColor f.inFmt v
  | .jet => lookup active (f.idx v)

/-- `pack(out, r, g, b)`: the channels in the order the format names, byte 0 first, alpha 0xFF (R143,
41_negotiation_dispatch.md R108). -/
def pack (o : OutFormat) (c : Rgb) : List Byte :=
  match o with
  | .rgb => [c.r, c.g, c.b]
  | .bgr => [c.b, c.g, c.r]
  | .rgba => [c.r, c.g, c.b, 0xFF]
  | .bgra => [c.b, c.g, c.r, 0xFF]

/-- The sample of a pixel: `MemRead(sa, IBPP)` (R133), its bytes by the race's picks (20_memory.md R73). -/
def State.sample (s : State) (p : Pixel) (picks : List Nat) : Nat :=
  memReadRaced s.mem s.raced picks (s.frame.srcAddr p) s.frame.inFmt.bytes

/-- The byte writes of `pixel(x, y)` (R131, R144): the formatted color of the sample, at the pixel's address. -/
def State.pixelCells (s : State) (p : Pixel) (picks : List Nat) : List Host.Cell :=
  memWriteCells (s.frame.dstAddr p) (pack s.frame.outFmt (s.frame.color s.lutActive (s.sample p picks)))

end Sys2Proof.Machine
end

