-- ==== Sys2Proof/Machine/Engine.lean ====
section
/-! DEFINITION. The steps of the block's own agents, the builder (40_configuration.md R93 to R97) and the engine
(42_frame_transform.md R127 to R131, R98, R99; 60_exceptions.md R185), and of the reset input (70_reset_and_hazards.md).
A step that is not enabled does nothing (assumption 7). -/

namespace Sys2Proof.Machine

/-- `build_table(p)` into the shadow bank: the palette ROM for JET, no entry for NONE (R93, R94, R95). -/
def buildTable (p : Option Preset) (rom shadow : Lut) : Lut :=
  match p with
  | some .jet => rom
  | some .none => shadow
  | none => shadow

/-- The builder's step: enabled while `BUILD_BUSY` = 1, it completes the build at once (R97). -/
def buildStep (s : State) : State :=
  if s.buildBusy then
    { s with lutShadow := buildTable s.buildPreset s.jetRom s.lutShadow, buildBusy := false }
  else s

/-- Passing the build fence and publishing the table: enabled at the fence once `BUILD_BUSY` = 0 (R98); for a JET frame
`LUT_ACTIVE <- LUT_SHADOW` in one atomic step (R99). -/
def publishStep (s : State) : State :=
  if s.phase = .fenced ∧ s.buildBusy = false then
    { s with
      phase := .running
      lutActive := match s.frame.preset with
        | .jet => s.lutShadow
        | .none => s.lutActive }
  else s

/-- Whether the engine may process the pixel now: a pixel of the frame not yet in `DONE_PX` (R127, R128). -/
def State.pixelEnabled (s : State) (p : Pixel) : Bool :=
  decide (s.phase = .running) && s.frame.hasPixel p && decide (p ∉ s.donePx)

/-- `pixel(x, y)` (R131): read the sample, compute the color, issue the writes of the formatted pixel, and add (x, y) to
`DONE_PX`. An error response to the read aborts the frame (R133, R185). The writes are in flight until the platform
completes them (10_state.md R54). -/
def pixelStep (p : Pixel) (picks : List Nat) (reply : BusReply) (s : State) : Host.Outcome State Fault Refusal :=
  if s.pixelEnabled p = false then .next s
  else if inFrameMemory (s.frame.srcAddr p) s.frame.inFmt.bytes = false
      ∨ inFrameMemory (s.frame.dstAddr p) s.frame.outFmt.bytes = false then .fault .addressOutsideFrameMemory
  else
    match reply with
    | .error => .next { s with phase := .aborting }
    | .ok => .next { s with inflight := s.inflight ++ s.pixelCells p picks, donePx := p :: s.donePx }

/-- Whether the engine may have requests outstanding: only inside a frame whose pixel work has begun (20_memory.md R58). -/
def State.onTheBus (s : State) : Bool := decide (s.phase = .running ∨ s.phase = .aborting)

/-- The `k`-th byte write in flight ends: with `ok` its byte is in frame memory (20_memory.md R60, R66); with an error
response nothing is stored and the frame aborts (R144, R185). -/
def completeStep (k : Nat) (reply : BusReply) (s : State) : State :=
  if s.onTheBus then
    match s.inflight[k]? with
    | none => s
    | some c =>
      match reply with
      | .ok => { s with inflight := s.inflight.eraseIdx k, mem := writeByte s.mem c.1 c.2 }
      | .error => { s with inflight := s.inflight.eraseIdx k, phase := .aborting }
  else s

/-- The first pixel, row by row, that is not in `DONE_PX`; none when the frame's pixels are all done (R127, R130). -/
def State.nextPixel (s : State) : Option Pixel := s.frame.pixels.find? fun p => decide (p ∉ s.donePx)

/-- The destination pixel bytes of the frame take any value (R185, R199). -/
def scrambleDst (s : State) : State :=
  { s with
    mem := scramble s.mem s.freeCount s.frame.dstBytes
    freeCount := s.freeCount + s.frame.dstBytes.length }

/-- Completion (R130): all pixels done and every write completed (20_memory.md R71); `BUSY <- 0; INT_STATUS.DONE <- 1` and
nothing else. -/
def completeFrame (s : State) : State := { s with phase := .idle, intDone := true }

/-- The end of an abort (R185): `BusError` is recorded and `BUSY <- 0` in one step, `DONE` is not set, and the destination
pixel bytes hold any value. -/
def abortFrame (s : State) : State := recordError .busError { scrambleDst s with phase := .idle }

/-- The frame ends: completion, or the end of an abort, once nothing is in flight (R130, R185). -/
def finishStep (s : State) : State :=
  if s.inflight = [] then
    match s.phase with
    | .running => if s.nextPixel = none then completeFrame s else s
    | .aborting => abortFrame s
    | .idle => s
    | .fenced => s
  else s

/-- The reset input (R197, R199): every register at its reset value, the palette ROM kept, a frame in progress abandoned
with its destination pixel bytes at any value, outstanding requests discarded. What the host was told and the events still
to come are not the block's state (assumption 12). -/
def resetStep (s : State) : State :=
  let t := if s.busy then scrambleDst s else s
  { State.resetWith s.jetRom with
    mem := t.mem
    freeCount := t.freeCount
    inputs := s.inputs
    readData := s.readData
    hostByte := s.hostByte }

end Sys2Proof.Machine
end

