-- ==== Sys2Proof/Machine/Bus.lean ====
section
/-! DEFINITION. What one event does: the host's register transactions (30_encoding.md R78, 20_memory.md R64, R70), its
loads and stores of frame memory (R58, R73), the agents' turns, and the turn the block takes when no event is left. -/

namespace Sys2Proof.Machine

/-- A register transaction: only a 32-bit access has a meaning (R64); it takes effect in one step (R66, R70). -/
def hostTransaction (bits : Nat) (word : TWord) (s : State) : Host.Outcome State Fault Refusal :=
  if bits = Config.registerAccessBits then exec (decode word) s else .refused .registerAccessNot32Bits

/-- The host stores a byte to frame memory. During a frame the byte it replaces is kept: a pixel computed from it may use
either (R73; assumption 10). -/
def hostStoreStep (addr : Word) (value : Byte) (s : State) : State :=
  { s with
    raced := if s.busy then (addr.toNat, readByte s.mem addr.toNat) :: s.raced else s.raced
    mem := writeByte s.mem addr.toNat value }

/-- The host loads a byte of frame memory. From the destination plane of a frame in progress it reads any value (R73). -/
def hostLoadStep (addr : Word) (s : State) : State :=
  if s.busy && s.frame.inDstPlane addr.toNat then
    { s with hostByte := Config.freeByte s.freeCount, freeCount := s.freeCount + 1 }
  else { s with hostByte := readByte s.mem addr.toNat }

/-- One event, one atomic step (60_exceptions.md R183). -/
def deliver (e : Event) (s : State) : Host.Outcome State Fault Refusal :=
  match e with
  | .host bits word => hostTransaction bits word s
  | .hostStore addr value => .next (hostStoreStep addr value s)
  | .hostLoad addr => .next (hostLoadStep addr s)
  | .build => .next (buildStep s)
  | .publish => .next (publishStep s)
  | .pixel x y picks reply => pixelStep (x, y) picks reply s
  | .complete k reply => .next (completeStep k reply s)
  | .finish => .next (finishStep s)
  | .reset => .next (resetStep s)

/-- The block's own step when no event is left, so that every enabled builder and engine step eventually happens
(70_reset_and_hazards.md R211): the builder first, then the frame's writes in flight, its next pixel, its end. None when
the block is idle: it then performs no step until a register transaction arrives (60_exceptions.md R196). The order, the
answer without error, and the empty picks of its pixel turns are a DESIGN CHOICE (assumption 6): where the host has raced
with such a turn, the pixel is computed from the present (new) byte, although 20_memory.md R73 admits the old one too; a
`pixel` event with picks takes either. -/
def State.ownTurn (s : State) : Option Event :=
  if s.buildBusy then some .build
  else
    match s.phase with
    | .idle => none
    | .fenced => some .publish
    | .running =>
      if s.inflight ≠ [] then some (.complete 0 .ok)
      else
        match s.nextPixel with
        | some p => some (.pixel p.1 p.2 [] .ok)
        | none => some .finish
    | .aborting => if s.inflight ≠ [] then some (.complete 0 .ok) else some .finish

/-- One step: the first event that is still to come; with none left, the block's own turn; an idle block stays as it is. -/
def stepOnce (s : State) : Host.Outcome State Fault Refusal :=
  match s.inputs with
  | e :: rest => deliver e { s with inputs := rest }
  | [] =>
    match s.ownTurn with
    | some e => deliver e s
    | none => .next s

/-- A register transaction placed as the next event (assumption 5). -/
def placeTransaction (word : TWord) (s : State) : State :=
  { s with inputs := .host Config.registerAccessBits word :: s.inputs }

end Sys2Proof.Machine
end

