-- ==== Sys2Proof/Machine/Step.lean ====
section
/-! DEFINITION. The step of the machine, and how the host's check places a transaction. -/

namespace Sys2Proof.Machine

/-- One atomic step of the block and its surroundings (60_exceptions.md R183; assumption 5). -/
def step (s : State) : Host.Outcome State Fault Refusal := stepOnce s

/-- `s` with the opcode-table word `w` of `nbits` bits as the host's next register transaction (assumption 5). -/
def State.withFetchWord (s : State) (nbits w : Nat) : State := placeTransaction (BitVec.ofNat 45 (w % 2 ^ nbits)) s

end Sys2Proof.Machine
end

