-- ==== Sys2Proof/Safety.lean ====
section
/-! DEFINITION. What claims about the machine say: the invariants of the block, what a frame must leave in memory, which
events leave a frame alone, and the shapes of the statements about register transactions. -/

namespace Sys2Proof.Machine

/-! ### Register transactions -/

/-- The number of an error code in `STATUS.ERR_CODE` (60_exceptions.md R174). -/
def ErrorCode.number : ErrorCode → Nat
  | .none => 0
  | .invalidConfiguration => 1
  | .unsupportedFormat => 2
  | .invalidFrame => 3
  | .illegalCommand => 4
  | .busError => 5

/-- The number of an input format in `IN_FMT` (41_negotiation_dispatch.md R107). -/
def InFormat.number : InFormat → Nat
  | .gray8 => 0
  | .gray16le => 1

/-- The number of an output format in `OUT_FMT` (41_negotiation_dispatch.md R108). -/
def OutFormat.number : OutFormat → Nat
  | .rgb => 0
  | .bgr => 1
  | .rgba => 2
  | .bgra => 3

/-- `RD` of the register at `off`: the word `(WE = 0, OFF = off, DATA)` is the instruction `i DATA`, which answers the
number `v` of the state, all 32 bits of it, and changes nothing else (43_control.md R154 to R173, 20_memory.md R67). -/
def ReadsAs (i : Word → Instr) (off : Offset) (v : State → Nat) : Prop :=
  ∀ (d : Word) (s : State),
    decode (TWord.ofFields false off d) = i d ∧ v s < 2 ^ 32 ∧
    exec (i d) s = .next { s with readData := BitVec.ofNat 32 (v s) }

/-- `WR` of the register at `off`: the word `(WE = 1, OFF = off, DATA)` is the instruction `i DATA`, whose next state is
`upd` of the number `DATA` and the state. -/
def WritesAs (i : Word → Instr) (off : Offset) (upd : Nat → State → State) : Prop :=
  ∀ (d : Word) (s : State),
    decode (TWord.ofFields true off d) = i d ∧ exec (i d) s = .next (upd d.toNat s)

/-- The command of the word `DATA` written to `CMD` (30_encoding.md R82). -/
def IsCommand (i : Instr) (data : Word) : Prop := decode (TWord.ofFields true 0x004#12 data) = i

/-! ### The checks of PROCESS, as conditions that fail (42_frame_transform.md R125) -/

/-- The seven conditions under which a check of PROCESS fails, on unbounded integers, and the error each raises. The byte
ranges of check 7 intersect where some address lies in both. -/
def processChecks (s : State) : List (Prop × ErrorCode) :=
  let W : Int := s.ctxGeom.width.toNat
  let H : Int := s.ctxGeom.height.toNat
  let sEnd : Int := s.srcBase.toNat + (H - 1) * s.srcStride.toNat + W * s.ctxIn.bytes
  let dEnd : Int := s.dstBase.toNat + (H - 1) * s.dstStride.toNat + W * s.ctxOut.bytes
  [ (s.negValid = false, .unsupportedFormat),
    (s.srcBase.toNat = 0 ∨ s.dstBase.toNat = 0, .invalidFrame),
    (s.srcFmt.toNat ≠ s.ctxIn.number ∨ s.dstFmt.toNat ≠ s.ctxOut.number, .unsupportedFormat),
    (s.srcGeom ≠ s.ctxGeom ∨ s.dstGeom ≠ s.ctxGeom, .unsupportedFormat),
    (s.srcStride.toNat < W * s.ctxIn.bytes ∨ s.dstStride.toNat < W * s.ctxOut.bytes, .invalidFrame),
    (2 ^ 32 < sEnd ∨ 2 ^ 32 < dEnd, .invalidFrame),
    (∃ a : Nat, (s.srcBase.toNat ≤ a ∧ a < sEnd) ∧ (s.dstBase.toNat ≤ a ∧ a < dEnd), .invalidFrame) ]

/-- `e` is the error of the first condition in the list that holds (R125, 60_exceptions.md R182). -/
def FirstFailing (checks : List (Prop × ErrorCode)) (e : ErrorCode) : Prop :=
  ∃ before c after, checks = before ++ c :: after ∧ (∀ b ∈ before, ¬ b.1) ∧ c.1 ∧ e = c.2

/-- No condition in the list holds. -/
def NoneFails (checks : List (Prop × ErrorCode)) : Prop := ∀ c ∈ checks, ¬ c.1

/-- Under which condition NEGOTIATE fails (41_negotiation_dispatch.md R112): an unsupported code or a zero size. -/
def NegotiateFails (s : State) : Prop :=
  2 ≤ s.fmt.inFmt.toNat ∨ 4 ≤ s.fmt.outFmt.toNat ∨ s.geom.width.toNat = 0 ∨ s.geom.height.toNat = 0

/-! ### What records an error (60_exceptions.md R175 to R179) -/

/-- The causes of each error code: which event records it, in which state. -/
def Records (e : Event) (s : State) : ErrorCode → Prop
  | .none => False
  | .invalidConfiguration => ∃ w d, e = .host 32 w ∧ decode w = .wrPreset d ∧ 2 ≤ d.toNat
  | .unsupportedFormat => ∃ w, e = .host 32 w ∧ s.phase = .idle ∧
      ((decode w = .cmdNegotiate ∧ NegotiateFails s) ∨
        (decode w = .cmdProcess ∧ FirstFailing (processChecks s) .unsupportedFormat))
  | .invalidFrame => ∃ w, e = .host 32 w ∧ s.phase = .idle ∧ decode w = .cmdProcess ∧
      FirstFailing (processChecks s) .invalidFrame
  | .illegalCommand => ∃ w, e = .host 32 w ∧ w.we = true ∧ w.off = 0x004#12 ∧
      (w.data.toNat / 256 ≠ 0 ∨ 4 ≤ w.data.toNat % 256)
  | .busError => e = .finish ∧ s.phase = .aborting ∧ s.inflight = []

/-! ### Invariants -/

/-- What check_frame() guarantees of a latched frame (42_frame_transform.md R125 checks 5, 6 and 7; 10_state.md R35). -/
structure FrameLatch.Ok (f : FrameLatch) : Prop where
  width_pos : 0 < f.width.toNat
  height_pos : 0 < f.height.toNat
  src_stride : f.width.toNat * f.inFmt.bytes ≤ f.srcStride.toNat
  dst_stride : f.width.toNat * f.outFmt.bytes ≤ f.dstStride.toNat
  src_end : planeEnd f.srcBase.toNat f.srcStride.toNat f.width.toNat f.height.toNat f.inFmt.bytes ≤ 2 ^ 32
  dst_end : planeEnd f.dstBase.toNat f.dstStride.toNat f.width.toNat f.height.toNat f.outFmt.bytes ≤ 2 ^ 32
  apart : planeEnd f.srcBase.toNat f.srcStride.toNat f.width.toNat f.height.toNat f.inFmt.bytes ≤ f.dstBase.toNat ∨
    planeEnd f.dstBase.toNat f.dstStride.toNat f.width.toNat f.height.toNat f.outFmt.bytes ≤ f.srcBase.toNat

/-- The block's invariant: memory is canonical, a valid context is not empty (R35), a frame in progress has passed its
checks, `DONE_PX` is a set of pixels of the frame (R51), writes are in flight only while pixels are processed or an abort
waits (R54), and only to destination pixel bytes (42_frame_transform.md R145), and the builder works for the current
preset and has filled the shadow bank when it is done (40_configuration.md R96, R97). -/
structure BlockInv (s : State) : Prop where
  mem_wf : s.mem.wf = true
  context : s.negValid = true → 0 < s.ctxGeom.width.toNat ∧ 0 < s.ctxGeom.height.toNat
  frame_ok : s.phase ≠ .idle → s.frame.Ok
  done_nodup : s.donePx.Nodup
  done_in_frame : ∀ p ∈ s.donePx, s.frame.hasPixel p = true
  fence_fresh : s.phase = .fenced → s.donePx = []
  quiet_bus : s.phase = .idle ∨ s.phase = .fenced → s.inflight = []
  inflight_dst : ∀ c ∈ s.inflight, c.1 ∈ s.frame.dstBytes
  build_current : s.buildBusy = true → s.buildPreset = some s.preset
  shadow_built : s.preset = .jet → s.buildBusy = false → s.lutShadow = s.jetRom

/-- Every table entry a JET frame reads is the palette ROM's (40_configuration.md R100): the shadow bank holds the ROM, and
so does the active bank while a JET frame's pixels are processed. -/
def TableInv (s : State) : Prop :=
  s.lutShadow = s.jetRom ∧ (s.phase = .running → s.frame.preset = .jet → s.lutActive = s.jetRom)

/-! ### What a frame leaves in memory -/

/-- The bytes pixel `p` of a frame must have at its destination, from the source bytes of `m` and the palette `rom`
(42_frame_transform.md R131 to R144). -/
def frameCells (f : FrameLatch) (rom : Lut) (m : Memory) (p : Pixel) : List Host.Cell :=
  memWriteCells (f.dstAddr p) (pack f.outFmt (f.color rom (memRead m (f.srcAddr p) f.inFmt.bytes)))

/-- The destination holds the whole frame computed from the source bytes of `m0`, and every other byte is as in `m0`
(R127, R145). -/
def FrameWritten (f : FrameLatch) (rom : Lut) (m0 m : Memory) : Prop :=
  (∀ p, f.hasPixel p = true → ∀ c ∈ frameCells f rom m0 p, readByte m c.1 = c.2) ∧
  (∀ a, a ∉ f.dstBytes → readByte m a = readByte m0 a)

/-- Byte by byte a sample the engine may read at `sa`: each byte is the present one, or one that a host store of this frame
has replaced there (20_memory.md R73; assumption 10). -/
def RacedSample (s : State) (sa : Nat) (bytes : List Byte) : Prop :=
  bytes.length = s.frame.inFmt.bytes ∧
  ∀ j b, bytes[j]? = some b → b = readByte s.mem (sa + j) ∨ (sa + j, b) ∈ s.raced

/-- Whether `a` lies in the source plane of the latched frame, row padding included: `[F_SB, SEND)` (R125). -/
def FrameLatch.inSrcPlane (f : FrameLatch) (a : Nat) : Bool :=
  decide (f.srcBase.toNat ≤ a) &&
  decide ((a : Int) < planeEnd f.srcBase.toNat f.srcStride.toNat f.width.toNat f.height.toNat f.inFmt.bytes)

/-- Whether `a` lies in one of the frame's two planes, which the host leaves alone during the frame (20_memory.md R73,
70_reset_and_hazards.md R206). -/
def FrameLatch.inPlanes (f : FrameLatch) (a : Nat) : Bool := f.inSrcPlane a || f.inDstPlane a

/-- A frame in progress over memory `m0`, which is memory as it would be without the frame: every pixel done is in memory or
in flight, nothing else is in flight, every byte of memory is as in `m0` or the final byte of a pixel done
(42_frame_transform.md R127, R129), and the host has stored to no byte of the source plane meanwhile. -/
structure FrameProgress (rom : Lut) (m0 : Memory) (s : State) : Prop where
  running : s.phase = .running
  table : s.frame.preset = .jet → s.lutActive = rom
  start_wf : m0.wf = true
  unraced : ∀ c ∈ s.raced, s.frame.inSrcPlane c.1 = false
  done : ∀ p ∈ s.donePx, ∀ c ∈ frameCells s.frame rom m0 p, c ∈ s.inflight ∨ readByte s.mem c.1 = c.2
  flight : ∀ c ∈ s.inflight, ∃ p ∈ s.donePx, c ∈ frameCells s.frame rom m0 p
  bytes : ∀ a, readByte s.mem a = readByte m0 a ∨ ∃ p ∈ s.donePx, (a, readByte s.mem a) ∈ frameCells s.frame rom m0 p

/-- An event that leaves the frame `f` in progress alone: anything but a host store to one of its planes (which may race,
20_memory.md R73), an error response (60_exceptions.md R179) and the reset input (70_reset_and_hazards.md R199). -/
def Event.calm (f : FrameLatch) : Event → Bool
  | .host _ _ | .hostLoad _ | .build | .publish | .finish => true
  | .pixel _ _ _ .ok | .complete _ .ok => true
  | .pixel _ _ _ .error | .complete _ .error => false
  | .hostStore a _ => !f.inPlanes a.toNat
  | .reset => false

/-- The next event, if there is one, leaves the frame in progress alone. -/
def NextEventCalm (s : State) : Prop := ∀ e rest, s.inputs = e :: rest → e.calm s.frame = true

/-- What an event's host store, if it is one, makes of the memory `m` (20_memory.md R58). -/
def Event.stored (e : Event) (m : Memory) : Memory :=
  match e with
  | .hostStore a v => writeByte m a.toNat v
  | .host _ _ | .hostLoad _ | .build | .publish | .pixel _ _ _ _ | .complete _ _ | .finish | .reset => m

/-- What the host's stores among the events make of the memory `m`, the first event first. -/
def hostStores (es : List Event) (m : Memory) : Memory := es.foldl (fun m e => e.stored m) m

/-- An event that leaves the frame `f` alone and writes no register: a calm event that is no register transaction, or a
register read (30_encoding.md R78). -/
def Event.watches (f : FrameLatch) (e : Event) : Bool :=
  match e with
  | .host bits w => decide (bits = 32) && !w.we && decide (w.off.toNat % 4 = 0)
  | .hostStore _ _ | .hostLoad _ | .build | .publish | .pixel _ _ _ _ | .complete _ _ | .finish | .reset => e.calm f

end Sys2Proof.Machine
end

