-- ==== Sys2Proof/Certificates/Slice0/Obligations.lean ====
section
/-! DEFINITION. The statements for the provers. Each docstring names the rules of spec/ it rests on. A statement over
`deliver e s` is about every atomic step of the machine: a step delivers one event. -/

open Sys2Proof Sys2Proof.Machine

/-! ### Encoding -/

/-- Decoding the word of a well-formed transaction gives it back, with every operand at every value (30_encoding.md R78 to
R82). -/
def Obligations.DecodeOfEncodeIsTheTransaction : Prop :=
  ∀ i : Instr, i.wellFormed = true → decode (encode i) = i

/-- Decoding is total over the 2^45 words: each is the word of the one well-formed transaction it decodes to
(30_encoding.md R79). That no bit of `DATA` is lost, not even one the spec ignores in a read or a write, is the model's
choice (assumption 14). -/
def Obligations.EveryWordIsOneTransaction : Prop :=
  ∀ t : TWord, (decode t).wellFormed = true ∧ encode (decode t) = t

/-- Words written out in 95_test_vectors.md (L2.1, L2.8 and program P1) decode to the transactions they stand for: commands,
illegal commands, configuration and descriptor writes, an interrupt register write, a read, unmapped reads. -/
def Obligations.WordsOfTheSpecDecode : Prop :=
  decode 0x100400000002 = .cmdProcess ∧ decode 0x1004000000FF = .cmdIllegal80 0x7F ∧
  decode 0x100400000102 = .cmdIllegalHigh 0x102 ∧ decode 0x101C00000064 = .wrFarCut 100 ∧
  decode 0x103800020002 = .wrSrcGeom 0x00020002 ∧ decode 0x100C00000001 = .wrIntStatus 1 ∧
  decode 0x000800000000 = .rdStatus 0 ∧ decode 0x0FFC00000000 = .unmapped800 false 0x1FF 0 ∧
  decode 0x005000000000 = .unmapped050 false 0 0

/-- A register transaction at the head of the inputs is taken by the step: it is consumed and the decoded instruction runs
(20_memory.md R66, R70). That the transactions to come stand in a list is the model's (assumption 5). -/
def Obligations.StepRunsTheDecodedTransaction : Prop :=
  ∀ (s : State) (t : TWord) (i : Instr) (rest : List Event),
    s.inputs = .host 32 t :: rest → decode t = i → i.wellFormed = true →
    step s = exec i { s with inputs := rest }

/-- A register access that is not 32 bits, or at an offset that is no multiple of 4, is refused (20_memory.md R64). -/
def Obligations.AccessesWithoutMeaningAreRefused : Prop :=
  (∀ (s : State) (bits : Nat) (t : TWord) (rest : List Event),
    s.inputs = .host bits t :: rest → bits ≠ 32 → step s = .refused .registerAccessNot32Bits) ∧
  (∀ (we : Bool) (off : Offset) (d : Word) (s : State), off.toNat % 4 ≠ 0 →
    exec (decode (TWord.ofFields we off d)) s = .refused .misalignedRegisterAccess) ∧
  (∀ (we : Bool) (hi : BitVec 10) (d : Word) (s : State),
    exec (.misaligned01 we hi d) s = .refused .misalignedRegisterAccess ∧
    exec (.misaligned10 we hi d) s = .refused .misalignedRegisterAccess ∧
    exec (.misaligned11 we hi d) s = .refused .misalignedRegisterAccess)

/-- Nothing else is ever refused: a step that refuses has taken such an access (R64, 92_eei_decisions.md D2, D29). -/
def Obligations.OnlyAccessesWithoutMeaningAreRefused : Prop :=
  ∀ (s : State) (r : Refusal), step s = .refused r →
    ∃ bits t rest, s.inputs = .host bits t :: rest ∧ (bits ≠ 32 ∨ t.toNat / 2 ^ 32 % 4 ≠ 0)

/-! ### Register reads -/

/-- `RD` of the identification, command, status and interrupt registers (43_control.md R154 to R158). -/
def Obligations.ReadsOfIdentityStatusAndInterrupts : Prop :=
  ReadsAs .rdId 0x000#12 (fun _ => 0x46434D01) ∧
  ReadsAs .rdCmd 0x004#12 (fun _ => 0) ∧
  ReadsAs .rdStatus 0x008#12 (fun s =>
    (decide (s.phase ≠ .idle)).toNat + 2 * s.buildBusy.toNat + 4 * s.negValid.toNat + 8 * s.ovr.toNat
      + 256 * s.errCode.number) ∧
  ReadsAs .rdIntStatus 0x00C#12 (fun s => s.intDone.toNat + 2 * s.intErr.toNat) ∧
  ReadsAs .rdIntEnable 0x010#12 (fun s => s.doneEn.toNat + 2 * s.errEn.toNat)

/-- `RD` of the configuration registers (R159 to R161). -/
def Obligations.ReadsOfTheConfiguration : Prop :=
  ReadsAs .rdPreset 0x014#12 (fun s => if s.preset = .jet then 1 else 0) ∧
  ReadsAs .rdNearCut 0x018#12 (fun s => s.nearCut.toNat) ∧
  ReadsAs .rdFarCut 0x01C#12 (fun s => s.farCut.toNat)

/-- `RD` of the staged and the negotiated format and geometry (R162 to R165): a supported format reads as its number in the
tables of 41_negotiation_dispatch.md R107 and R108. -/
def Obligations.ReadsOfStagedAndNegotiatedFormat : Prop :=
  ReadsAs .rdFmt 0x020#12 (fun s => s.fmt.inFmt.toNat + 256 * s.fmt.outFmt.toNat) ∧
  ReadsAs .rdGeom 0x024#12 (fun s => s.geom.width.toNat + 65536 * s.geom.height.toNat) ∧
  ReadsAs .rdCtxFmt 0x028#12 (fun s => s.ctxIn.number + 256 * s.ctxOut.number) ∧
  ReadsAs .rdCtxGeom 0x02C#12 (fun s => s.ctxGeom.width.toNat + 65536 * s.ctxGeom.height.toNat)

/-- `RD` of the frame descriptors: the registers, whatever a frame in progress has latched (R166 to R173). -/
def Obligations.ReadsOfTheDescriptors : Prop :=
  ReadsAs .rdSrcBase 0x030#12 (fun s => s.srcBase.toNat) ∧
  ReadsAs .rdSrcStride 0x034#12 (fun s => s.srcStride.toNat) ∧
  ReadsAs .rdSrcGeom 0x038#12 (fun s => s.srcGeom.width.toNat + 65536 * s.srcGeom.height.toNat) ∧
  ReadsAs .rdSrcFmt 0x03C#12 (fun s => s.srcFmt.toNat) ∧
  ReadsAs .rdDstBase 0x040#12 (fun s => s.dstBase.toNat) ∧
  ReadsAs .rdDstStride 0x044#12 (fun s => s.dstStride.toNat) ∧
  ReadsAs .rdDstGeom 0x048#12 (fun s => s.dstGeom.width.toNat + 65536 * s.dstGeom.height.toNat) ∧
  ReadsAs .rdDstFmt 0x04C#12 (fun s => s.dstFmt.toNat)

/-! ### Register writes: the whole next state, so also everything that is left unchanged -/

/-- `WR FMT` and `WR GEOM` (41_negotiation_dispatch.md R110, R111). -/
def Obligations.StagingWritesStoreTheirFields : Prop :=
  WritesAs .wrFmt 0x020#12 (fun d s =>
    { s with fmt := ⟨BitVec.ofNat 4 (d % 16), BitVec.ofNat 4 (d / 256 % 16)⟩ }) ∧
  WritesAs .wrGeom 0x024#12 (fun d s =>
    { s with geom := ⟨BitVec.ofNat 16 (d % 65536), BitVec.ofNat 16 (d / 65536)⟩ })

/-- The writes of the frame descriptors (42_frame_transform.md R116 to R123). -/
def Obligations.DescriptorWritesStoreTheirFields : Prop :=
  WritesAs .wrSrcBase 0x030#12 (fun d s => { s with srcBase := BitVec.ofNat 32 d }) ∧
  WritesAs .wrSrcStride 0x034#12 (fun d s => { s with srcStride := BitVec.ofNat 32 d }) ∧
  WritesAs .wrSrcGeom 0x038#12 (fun d s =>
    { s with srcGeom := ⟨BitVec.ofNat 16 (d % 65536), BitVec.ofNat 16 (d / 65536)⟩ }) ∧
  WritesAs .wrSrcFmt 0x03C#12 (fun d s => { s with srcFmt := BitVec.ofNat 4 (d % 16) }) ∧
  WritesAs .wrDstBase 0x040#12 (fun d s => { s with dstBase := BitVec.ofNat 32 d }) ∧
  WritesAs .wrDstStride 0x044#12 (fun d s => { s with dstStride := BitVec.ofNat 32 d }) ∧
  WritesAs .wrDstGeom 0x048#12 (fun d s =>
    { s with dstGeom := ⟨BitVec.ofNat 16 (d % 65536), BitVec.ofNat 16 (d / 65536)⟩ }) ∧
  WritesAs .wrDstFmt 0x04C#12 (fun d s => { s with dstFmt := BitVec.ofNat 4 (d % 16) })

/-- `WR NEAR_CUT` and `WR FAR_CUT` store 16 bits, refuse nothing, and trigger a rebuild for the preset in force
(40_configuration.md R90, R91, R92, R96). -/
def Obligations.CutWritesStoreAndTriggerARebuild : Prop :=
  WritesAs .wrNearCut 0x018#12 (fun d s =>
    { s with nearCut := BitVec.ofNat 16 (d % 65536), buildPreset := some s.preset, buildBusy := true }) ∧
  WritesAs .wrFarCut 0x01C#12 (fun d s =>
    { s with farCut := BitVec.ofNat 16 (d % 65536), buildPreset := some s.preset, buildBusy := true })

/-- `WR PRESET`: the whole 32 bits are the code; 0 and 1 are stored and trigger a rebuild for the new preset, any other
value raises `InvalidConfiguration` and changes nothing else (R89, R101, 30_encoding.md R83). -/
def Obligations.PresetWriteStoresOrRaises : Prop :=
  WritesAs .wrPreset 0x014#12 (fun p s =>
    if p = 0 then { s with preset := .none, buildPreset := some .none, buildBusy := true }
    else if p = 1 then { s with preset := .jet, buildPreset := some .jet, buildBusy := true }
    else { s with errCode := .invalidConfiguration, intErr := true })

/-- `WR INT_STATUS` clears the bits written 1 and `WR INT_ENABLE` stores the enables; the interrupt output follows at once
(43_control.md R150, R151, 60_exceptions.md R188). That a clear never meets a set in one step is the model's reading
(assumption 16). -/
def Obligations.InterruptRegisterWrites : Prop :=
  WritesAs .wrIntStatus 0x00C#12 (fun d s =>
    { s with intDone := s.intDone && decide (d % 2 = 0), intErr := s.intErr && decide (d / 2 % 2 = 0) }) ∧
  WritesAs .wrIntEnable 0x010#12 (fun d s =>
    { s with doneEn := decide (d % 2 = 1), errEn := decide (d / 2 % 2 = 1) }) ∧
  (∀ (d : Word) (s t : State), exec (.wrIntEnable d) s = .next t →
    (t.irq = true ↔ (s.intDone = true ∧ d.toNat % 2 = 1) ∨ (s.intErr = true ∧ d.toNat / 2 % 2 = 1)))

/-- `CMD NOP` and the writes of the read-only registers change no state (43_control.md R146, R152). -/
def Obligations.WritesThatChangeNothing : Prop :=
  IsCommand .cmdNop 0 ∧ (∀ s, exec .cmdNop s = .next s) ∧
  WritesAs .wrId 0x000#12 (fun _ s => s) ∧ WritesAs .wrStatus 0x008#12 (fun _ s => s) ∧
  WritesAs .wrCtxFmt 0x028#12 (fun _ s => s) ∧ WritesAs .wrCtxGeom 0x02C#12 (fun _ s => s)

/-- At every multiple of 4 from 0x050 on, a read returns 0 and a write is ignored (R153), row by row of the opcode table. -/
def Obligations.UnmappedOffsetsReadZeroAndIgnoreWrites : Prop :=
  (∀ (off : Offset) (d : Word) (s : State), 0x050 ≤ off.toNat → off.toNat % 4 = 0 →
    exec (decode (TWord.ofFields false off d)) s = .next { s with readData := 0 } ∧
    exec (decode (TWord.ofFields true off d)) s = .next s) ∧
  (∀ (we : Bool) (d : Word) (s : State), ∃ t, t = (if we then s else { s with readData := 0 }) ∧
    (∀ sel, exec (.unmapped050 we sel d) s = .next t) ∧ (∀ sel, exec (.unmapped060 we sel d) s = .next t) ∧
    (∀ sel, exec (.unmapped080 we sel d) s = .next t) ∧ (∀ sel, exec (.unmapped100 we sel d) s = .next t) ∧
    (∀ sel, exec (.unmapped200 we sel d) s = .next t) ∧ (∀ sel, exec (.unmapped400 we sel d) s = .next t) ∧
    (∀ sel, exec (.unmapped800 we sel d) s = .next t))

/-- Every write of `CMD` whose word names no command raises `IllegalCommand` and has no other effect, busy or not (R148),
row by row of the opcode table. -/
def Obligations.IllegalCommandWordsRaise : Prop :=
  (∀ (d : Word) (s : State), d.toNat / 256 ≠ 0 ∨ 4 ≤ d.toNat % 256 →
    exec (decode (TWord.ofFields true 0x004#12 d)) s = .next { s with errCode := .illegalCommand, intErr := true }) ∧
  (∀ s : State, ∃ t, t = { s with errCode := .illegalCommand, intErr := true } ∧
    (∀ lo, exec (.cmdIllegal04 lo) s = .next t) ∧ (∀ lo, exec (.cmdIllegal08 lo) s = .next t) ∧
    (∀ lo, exec (.cmdIllegal10 lo) s = .next t) ∧ (∀ lo, exec (.cmdIllegal20 lo) s = .next t) ∧
    (∀ lo, exec (.cmdIllegal40 lo) s = .next t) ∧ (∀ lo, exec (.cmdIllegal80 lo) s = .next t) ∧
    (∀ d, exec (.cmdIllegalHigh d) s = .next t))

/-- `CMD CLEAR_ERROR` clears the error code and the overrun flag and nothing else, busy or not; a `BusError` the frame in
progress records later sets the code again (R147). -/
def Obligations.ClearErrorClearsCodeAndOverrun : Prop :=
  IsCommand .cmdClearError 3 ∧
  (∀ s, exec .cmdClearError s = .next { s with errCode := .none, ovr := false }) ∧
  (∀ s, s.phase = .aborting → s.inflight = [] →
    ∃ t u, exec .cmdClearError s = .next t ∧ deliver .finish t = .next u ∧ u.errCode = .busError)

/-- NEGOTIATE and PROCESS written while `BUSY` = 1 have no effect but to set `OVR` (R149). -/
def Obligations.CommandsWhileBusyAreDropped : Prop :=
  ∀ s : State, s.phase ≠ .idle →
    exec .cmdNegotiate s = .next { s with ovr := true } ∧ exec .cmdProcess s = .next { s with ovr := true }

/-- NEGOTIATE: dropped while busy; else an unsupported code or a zero size raises `UnsupportedFormat` and leaves the
context; else the staged format and geometry become the context, which is marked valid: 0 is GRAY8, 1 is GRAY16_LE; 0 to 3
are RGB, BGR, RGBA and BGRA (41_negotiation_dispatch.md R107, R108, R112). -/
def Obligations.NegotiateStoresTheContextOrRaises : Prop :=
  IsCommand .cmdNegotiate 1 ∧
  (∀ s : State, s.phase ≠ .idle → exec .cmdNegotiate s = .next { s with ovr := true }) ∧
  ∀ s : State, s.phase = .idle →
    (2 ≤ s.fmt.inFmt.toNat ∨ 4 ≤ s.fmt.outFmt.toNat ∨ s.geom.width.toNat = 0 ∨ s.geom.height.toNat = 0 →
      exec .cmdNegotiate s = .next { s with errCode := .unsupportedFormat, intErr := true }) ∧
    (s.fmt.inFmt.toNat < 2 ∧ s.fmt.outFmt.toNat < 4 ∧ 1 ≤ s.geom.width.toNat ∧ 1 ≤ s.geom.height.toNat →
      ∃ i o, exec .cmdNegotiate s = .next { s with ctxIn := i, ctxOut := o, ctxGeom := s.geom, negValid := true } ∧
        (s.fmt.inFmt.toNat = 0 → i = .gray8) ∧ (s.fmt.inFmt.toNat = 1 → i = .gray16le) ∧
        (s.fmt.outFmt.toNat = 0 → o = .rgb) ∧ (s.fmt.outFmt.toNat = 1 → o = .bgr) ∧
        (s.fmt.outFmt.toNat = 2 → o = .rgba) ∧ (s.fmt.outFmt.toNat = 3 → o = .bgra))

/-- PROCESS while not busy: the first failing check, in the order 1 to 7, raises its error with no other effect; if none
fails, the frame is accepted with the configuration, context and descriptors latched (42_frame_transform.md R125, R126,
60_exceptions.md R182). Whether a check fails is stated on unbounded integers, the formats by their numbers in R107 and
R108, check 7 as an address in both ranges. -/
def Obligations.ProcessReportsTheFirstFailingCheckOrLatches : Prop :=
  IsCommand .cmdProcess 2 ∧
  ∀ s : State, s.phase = .idle →
    (∀ e, FirstFailing (processChecks s) e → exec .cmdProcess s = .next { s with errCode := e, intErr := true }) ∧
    (NoneFails (processChecks s) → exec .cmdProcess s = .next { s with
      phase := .fenced, donePx := [], raced := []
      frame :=
        { preset := s.preset, near := s.nearCut, far := s.farCut, inFmt := s.ctxIn, outFmt := s.ctxOut,
          width := s.ctxGeom.width, height := s.ctxGeom.height, srcBase := s.srcBase, srcStride := s.srcStride,
          dstBase := s.dstBase, dstStride := s.dstStride } })

/-! ### Whole-machine rules about transactions -/

/-- No register transaction touches frame memory, what is in flight, a table bank or the palette ROM
(20_memory.md R58, 40_configuration.md R99, 10_state.md R48). -/
def Obligations.TransactionsNeverTouchMemoryOrTables : Prop :=
  ∀ (i : Instr) (s t : State), exec i s = .next t →
    (∀ a, readByte t.mem a = readByte s.mem a) ∧ t.mem = s.mem ∧ t.inflight = s.inflight ∧
    t.lutActive = s.lutActive ∧ t.lutShadow = s.lutShadow ∧ t.jetRom = s.jetRom ∧ t.inputs = s.inputs ∧
    t.hostByte = s.hostByte ∧ t.freeCount = s.freeCount

/-- From a frame's acceptance on, no register transaction changes it (42_frame_transform.md R126, 60_exceptions.md R183,
70_reset_and_hazards.md R205). -/
def Obligations.TransactionsNeverChangeAFrameInProgress : Prop :=
  ∀ (i : Instr) (s t : State), s.phase ≠ .idle → exec i s = .next t →
    t.phase = s.phase ∧ t.frame = s.frame ∧ t.donePx = s.donePx ∧ t.inflight = s.inflight ∧ t.raced = s.raced ∧
    t.mem = s.mem ∧ t.lutActive = s.lutActive

/-- `BUSY` goes to 1 only by a PROCESS command that passes its checks (10_state.md R26, 42_frame_transform.md R124). -/
def Obligations.OnlyAnAcceptedProcessStartsAFrame : Prop :=
  ∀ (e : Event) (s t : State), s.phase = .idle → deliver e s = .next t → t.phase ≠ .idle →
    (∃ w, e = .host 32 w ∧ decode w = .cmdProcess) ∧ NoneFails (processChecks s) ∧ t.phase = .fenced

/-- The error code changes, or `INT_STATUS.ERR` is set, only by one of the causes of the code that is then recorded, with
`INT_STATUS.ERR` set in the same step; else the code goes to 0 by CLEAR_ERROR or by reset
(60_exceptions.md R175 to R179, R181, R187; 70_reset_and_hazards.md R207). -/
def Obligations.ErrorCodeIsSticky : Prop :=
  ∀ (e : Event) (s t : State), deliver e s = .next t →
    t.errCode ≠ s.errCode ∨ (s.intErr = false ∧ t.intErr = true) →
    (Records e s t.errCode ∧ t.intErr = true) ∨
    (t.errCode = .none ∧ (e = .reset ∨ ∃ w, e = .host 32 w ∧ decode w = .cmdClearError))

/-- Each cause of an error records its code and sets `INT_STATUS.ERR`, and a transaction has no other effect; a frame
comes to end in `BusError` only by an error response to one of its requests (60_exceptions.md R175 to R179, R181). -/
def Obligations.EachCauseRecordsItsError : Prop :=
  (∀ (e : Event) (s : State) (c : ErrorCode), Records e s c →
    ∃ t, deliver e s = .next t ∧ t.errCode = c ∧ t.intErr = true ∧
      (e ≠ .finish → t = { s with errCode := c, intErr := true })) ∧
  (∀ (e : Event) (s t : State), deliver e s = .next t → s.phase ≠ .aborting → t.phase = .aborting →
    s.phase = .running ∧ ((∃ x y picks, e = .pixel x y picks .error) ∨ ∃ k, e = .complete k .error))

/-- The interrupt output is the OR of the two enabled causes, and once asserted it stays so until the host writes
`INT_STATUS` or `INT_ENABLE`, or reset (60_exceptions.md R188, R189). -/
def Obligations.InterruptOutputIsLevelAndStays : Prop :=
  (∀ s : State, s.irq = true ↔ (s.intDone = true ∧ s.doneEn = true) ∨ (s.intErr = true ∧ s.errEn = true)) ∧
  (∀ (e : Event) (s t : State), s.irq = true → deliver e s = .next t →
    t.irq = true ∨ e = .reset ∨
      ∃ w d, e = .host 32 w ∧ (decode w = .wrIntStatus d ∨ decode w = .wrIntEnable d))

/-- `INT_STATUS.DONE` is set only by the completion of a frame: all pixels done, nothing in flight, no abort
(42_frame_transform.md R130, 20_memory.md R71). -/
def Obligations.DoneIsSetOnlyByCompletion : Prop :=
  ∀ (e : Event) (s t : State), deliver e s = .next t → s.intDone = false → t.intDone = true →
    e = .finish ∧ s.phase = .running ∧ s.inflight = [] ∧ (∀ p, s.frame.hasPixel p = true → p ∈ s.donePx) ∧
    t.phase = .idle

/-- With no frame in progress the block neither reads nor writes frame memory: only a host store changes a byte of it, no
write goes in flight, and but for the host's own loads and stores no step depends on what memory holds
(20_memory.md R58, 60_exceptions.md R196). -/
def Obligations.FrameMemoryIsTheHostsOutsideAFrame : Prop :=
  (∀ (e : Event) (s t : State), s.phase = .idle → deliver e s = .next t → e ≠ .reset →
    t.inflight = s.inflight ∧
    (∀ a, readByte t.mem a ≠ readByte s.mem a → ∃ w v, e = .hostStore w v ∧ a = w.toNat)) ∧
  (∀ (e : Event) (s t : State) (m : Memory), s.phase = .idle → (∀ a, e ≠ .hostLoad a) → (∀ a v, e ≠ .hostStore a v) →
    deliver e s = .next t → deliver e { s with mem := m } = .next { t with mem := m })

/-- A host store stores its byte and no other, and changes nothing else; during a frame the byte it replaces is kept as
one a pixel may still be computed from (20_memory.md R58, R66, R73; assumption 10). -/
def Obligations.HostStoreStoresItsByte : Prop :=
  ∀ (s : State) (a : Word) (v : Byte), s.mem.wf = true →
    ∃ t, deliver (.hostStore a v) s = .next t ∧
      t = { s with mem := t.mem, raced := t.raced } ∧
      (∀ b, readByte t.mem b = if b = a.toNat then v else readByte s.mem b) ∧
      (s.phase = .idle → t.raced = s.raced) ∧
      (s.phase ≠ .idle → t.raced = (a.toNat, readByte s.mem a.toNat) :: s.raced)

/-- No step writes the palette ROM (10_state.md R48, R55). -/
def Obligations.PaletteRomIsReadOnly : Prop :=
  ∀ s t : State, step s = .next t → t.jetRom = s.jetRom

/-! ### The palette and the builder -/

/-- The palette ROM at reset is the default table: each channel of entry `i` is `clamp(382 - |4i - 255k|, 0, 255)`, `k` = 3,
2, 1 for R, G, B (40_configuration.md R102). -/
def Obligations.DefaultPaletteIsTheJetCurve : Prop :=
  ∀ i : Byte,
    ((lookup State.reset.jetRom i).r.toNat : Int) = max 0 (min 255 (382 - |4 * (i.toNat : Int) - 765|)) ∧
    ((lookup State.reset.jetRom i).g.toNat : Int) = max 0 (min 255 (382 - |4 * (i.toNat : Int) - 510|)) ∧
    ((lookup State.reset.jetRom i).b.toNat : Int) = max 0 (min 255 (382 - |4 * (i.toNat : Int) - 255|))

/-- The builder's step: while `BUILD_BUSY` = 1 it fills the shadow bank with the palette ROM for JET and with nothing for
NONE, and clears `BUILD_BUSY`; nothing else changes, and without `BUILD_BUSY` nothing does (R94, R95, R97). -/
def Obligations.BuilderFillsTheShadowBank : Prop :=
  ∀ s : State,
    (s.buildBusy = false → deliver .build s = .next s) ∧
    (s.buildBusy = true → ∃ t, deliver .build s = .next t ∧
      t = { s with lutShadow := t.lutShadow, buildBusy := false } ∧
      (s.buildPreset = some .jet → ∀ i, lookup t.lutShadow i = lookup s.jetRom i) ∧
      (s.buildPreset = some .none → t.lutShadow = s.lutShadow))

/-- The build fence: while `BUILD_BUSY` = 1 a frame at the fence stays there, whatever happens but reset: no pixel is done,
no write issued, no table published. The completion of the build ends the wait: the engine then passes the fence (R98). -/
def Obligations.PixelWorkWaitsForTheBuild : Prop :=
  (∀ (e : Event) (s t : State), s.phase = .fenced → s.buildBusy = true → e ≠ .reset → deliver e s = .next t →
    t.phase = .fenced ∧ t.frame = s.frame ∧ t.donePx = s.donePx ∧ t.inflight = s.inflight ∧
    t.lutActive = s.lutActive) ∧
  (∀ s : State, s.phase = .fenced → s.buildBusy = true →
    ∃ t u, deliver .build s = .next t ∧ deliver .publish t = .next u ∧ u.phase = .running ∧ u.buildBusy = false ∧
      u.frame = s.frame)

/-- Table publication: at the fence, with the build over, a JET frame copies the shadow bank to the active bank in the step
that starts its pixel work, a NONE frame copies nothing; at no other time but reset is the active bank written (R99). -/
def Obligations.TheActiveBankIsWrittenAtPublicationOnly : Prop :=
  (∀ s : State, s.phase = .fenced → s.buildBusy = false →
    (s.frame.preset = .jet → deliver .publish s = .next { s with phase := .running, lutActive := s.lutShadow }) ∧
    (s.frame.preset = .none → deliver .publish s = .next { s with phase := .running })) ∧
  (∀ (e : Event) (s t : State), deliver e s = .next t → e ≠ .reset → t.lutActive ≠ s.lutActive →
    e = .publish ∧ s.phase = .fenced ∧ s.buildBusy = false ∧ s.frame.preset = .jet)

/-- Once the shadow bank holds the palette ROM, every JET frame reads the palette ROM from then on, whatever the host writes
(R100): the table invariant is kept by every step. That the reset input keeps it is the model's choice of the shadow bank's
reset contents (assumption 2). -/
def Obligations.TableInvariantIsKept : Prop :=
  ∀ s t : State, TableInv s → step s = .next t → TableInv t

/-- A completed JET build leaves the palette ROM in the shadow bank and the active bank as it was, whatever the banks held
before, in whatever phase; the table invariant then holds, but for a JET frame whose pixels are being processed with another
table already published (R94, R97, R100). -/
def Obligations.JetBuildEstablishesTheTableInvariant : Prop :=
  ∀ s t : State, s.buildBusy = true → s.buildPreset = some .jet → deliver .build s = .next t →
    (∀ i, lookup t.lutShadow i = lookup s.jetRom i) ∧ t.lutActive = s.lutActive ∧
    (¬ (s.phase = .running ∧ s.frame.preset = .jet ∧ s.lutActive ≠ s.jetRom) → TableInv t)

/-! ### The per-pixel routine -/

/-- `MemRead` is little-endian: the byte at the lower address is the low byte (20_memory.md R59, R61). -/
def Obligations.SamplesAreLittleEndian : Prop :=
  ∀ (m : Memory) (a : Nat),
    memRead m a InFormat.gray8.bytes = (readByte m a).toNat ∧
    memRead m a InFormat.gray16le.bytes = (readByte m a).toNat + 256 * (readByte m (a + 1)).toNat

/-- NONE passthrough: every channel is `v` for GRAY8 and `v // 257` for GRAY16_LE, whatever the cuts and the table
(42_frame_transform.md R135). -/
def Obligations.NonePassesTheIntensityThrough : Prop :=
  ∀ (f : FrameLatch) (active : Lut) (v : Nat), f.preset = .none → v ≤ f.inFmt.maxv →
    ∃ q : Byte, f.color active v = ⟨q, q, q⟩ ∧ q.toNat = v * 255 / f.inFmt.maxv ∧
      (f.inFmt = .gray8 → q.toNat = v) ∧ (f.inFmt = .gray16le → q.toNat = v / 257)

/-- The normalizer in its unsigned form, with the cuts clamped to the input's range; a degenerate or inverted range gives 0
up to the near cut and 255 above it (R136, R138, R139). -/
def Obligations.NormalizerHasTheUnsignedForm : Prop :=
  ∀ (f : FrameLatch) (v : Nat),
    let n := min f.near.toNat f.inFmt.maxv
    let g := min f.far.toNat f.inFmt.maxv
    (n < g →
      (v ≤ n → (f.idx v).toNat = 0) ∧ (g ≤ v → (f.idx v).toNat = 255) ∧
      (n < v → v < g → (f.idx v).toNat = (v - n) * 255 / (g - n) ∧ (f.idx v).toNat ≤ 254)) ∧
    (g ≤ n → (f.idx v).toNat = if v ≤ n then 0 else 255)

/-- The index does not decrease with the sample, and on a proper range it runs from 0 at the near cut to 255 at the far cut
(R141). -/
def Obligations.NormalizerIsMonotone : Prop :=
  ∀ (f : FrameLatch) (v w : Nat), v ≤ w →
    (f.idx v).toNat ≤ (f.idx w).toNat ∧
    (f.effNear < f.effFar →
      (v < f.effNear → (f.idx v).toNat = 0) ∧ (f.effFar < v → (f.idx v).toNat = 255) ∧
      (f.idx f.effNear).toNat = 0 ∧ (f.idx f.effFar).toNat = 255)

/-- The output formatter: byte 0 first, the order the format names, alpha 0xFF (R143, 41_negotiation_dispatch.md R108). -/
def Obligations.FormatterOrdersTheChannels : Prop :=
  ∀ c : Rgb, pack .rgb c = [c.r, c.g, c.b] ∧ pack .bgr c = [c.b, c.g, c.r] ∧
    pack .rgba c = [c.r, c.g, c.b, 255] ∧ pack .bgra c = [c.b, c.g, c.r, 255] ∧
    ∀ o, (pack o c).length = o.bytes

/-- The pixel step of a frame that passed its checks issues exactly the pixel's bytes, at the pixel's address, computed from
its source sample, and marks the pixel done; it happens for any pixel not yet done, in any order, and for no pixel twice
(42_frame_transform.md R127, R128, R131 to R134, R144, R145). The host has not stored to memory during the frame; where it
has, see `RacedByteIsOldOrNew`. That the read is answered in this step, and that the pixel counts as done when its writes
are issued, is the model's reading (assumption 9). -/
def Obligations.PixelStepIssuesThePixel : Prop :=
  ∀ (s : State) (x y : Nat) (picks : List Nat), s.phase = .running → s.frame.Ok → s.raced = [] →
    (x < s.frame.width.toNat → y < s.frame.height.toNat → (x, y) ∉ s.donePx →
      ∃ cells, deliver (.pixel x y picks .ok) s =
          .next { s with inflight := s.inflight ++ cells, donePx := (x, y) :: s.donePx } ∧
        cells = memWriteCells
          (s.frame.dstBase.toNat + y * s.frame.dstStride.toNat + x * s.frame.outFmt.bytes)
          (pack s.frame.outFmt (s.frame.color s.lutActive (memRead s.mem
            (s.frame.srcBase.toNat + y * s.frame.srcStride.toNat + x * s.frame.inFmt.bytes)
            s.frame.inFmt.bytes)))) ∧
    (s.frame.width.toNat ≤ x ∨ s.frame.height.toNat ≤ y ∨ (x, y) ∈ s.donePx →
      deliver (.pixel x y picks .ok) s = .next s)

/-- A byte write that completes stores its byte and no other (20_memory.md R60, R66). -/
def Obligations.CompletedWriteStoresItsByte : Prop :=
  ∀ (s : State) (k : Nat) (c : Host.Cell), s.phase = .running ∨ s.phase = .aborting → s.mem.wf = true →
    s.inflight[k]? = some c →
    ∃ t, deliver (.complete k .ok) s = .next t ∧
      t = { s with mem := t.mem, inflight := s.inflight.eraseIdx k } ∧
      ∀ a, readByte t.mem a = if a = c.1 then c.2 else readByte s.mem a

/-- A frame's colors depend only on its latched values, the active table and its source bytes: two states that agree on
these issue the same bytes for the same pixel, whatever else differs (40_configuration.md R100, 42_frame_transform.md
R131). -/
def Obligations.PixelsDependOnLatchedValuesAndSourceOnly : Prop :=
  ∀ (s t : State) (p : Pixel) (picks picks' : List Nat), s.frame = t.frame → s.lutActive = t.lutActive →
    s.raced = [] → t.raced = [] →
    (∀ j < s.frame.inFmt.bytes, readByte s.mem (s.frame.srcAddr p + j) = readByte t.mem (s.frame.srcAddr p + j)) →
    s.pixelCells p picks = t.pixelCells p picks'

/-- A race: a pixel of a frame during which the host has stored to memory is computed from its sample's bytes, each the
present byte or one that a host store has replaced, and for every such choice there is a pixel step that makes it; a host
store makes the new byte the present one and the old byte one that it has replaced (20_memory.md R73; that each byte of a
sample races by itself, and with each of several stores, is the model's reading, assumption 10). -/
def Obligations.RacedByteIsOldOrNew : Prop :=
  (∀ (s : State) (x y : Nat), s.phase = .running → s.frame.Ok → x < s.frame.width.toNat → y < s.frame.height.toNat →
    (x, y) ∉ s.donePx →
    let sa := s.frame.srcBase.toNat + y * s.frame.srcStride.toNat + x * s.frame.inFmt.bytes
    let da := s.frame.dstBase.toNat + y * s.frame.dstStride.toNat + x * s.frame.outFmt.bytes
    let issued := fun bytes : List Byte =>
      { s with
        inflight := s.inflight ++ memWriteCells da (pack s.frame.outFmt (s.frame.color s.lutActive (leValue bytes)))
        donePx := (x, y) :: s.donePx }
    (∀ picks, ∃ bytes, RacedSample s sa bytes ∧ deliver (.pixel x y picks .ok) s = .next (issued bytes)) ∧
    (∀ bytes, RacedSample s sa bytes → ∃ picks, deliver (.pixel x y picks .ok) s = .next (issued bytes))) ∧
  (∀ (s t : State) (a : Word) (v : Byte), s.phase ≠ .idle → s.mem.wf = true → deliver (.hostStore a v) s = .next t →
    readByte t.mem a.toNat = v ∧ t.raced = (a.toNat, readByte s.mem a.toNat) :: s.raced ∧
    (∀ b, b ≠ a.toNat → readByte t.mem b = readByte s.mem b))

/-- A host load returns the byte of frame memory, but a free byte, any value, from the destination plane of a frame in
progress; it changes nothing else (R58, R73). -/
def Obligations.HostLoadReturnsTheByteOrAnyValue : Prop :=
  ∀ (s : State) (a : Word), ∃ t, deliver (.hostLoad a) s = .next t ∧
    t = { s with hostByte := t.hostByte, freeCount := t.freeCount } ∧
    (s.phase = .idle ∨ a.toNat < s.frame.dstBase.toNat ∨
        (s.frame.dstBase.toNat : Int) + ((s.frame.height.toNat : Int) - 1) * s.frame.dstStride.toNat
          + s.frame.width.toNat * s.frame.outFmt.bytes ≤ a.toNat →
      t.hostByte = readByte s.mem a.toNat ∧ t.freeCount = s.freeCount) ∧
    (s.phase ≠ .idle ∧ s.frame.dstBase.toNat ≤ a.toNat ∧
        (a.toNat : Int) < s.frame.dstBase.toNat + ((s.frame.height.toNat : Int) - 1) * s.frame.dstStride.toNat
          + s.frame.width.toNat * s.frame.outFmt.bytes →
      t.hostByte = Config.freeByte s.freeCount ∧ t.freeCount = s.freeCount + 1)

/-! ### The end of a frame -/

/-- Completion: when every pixel is done and nothing is in flight, `BUSY` goes to 0 and `DONE` to 1 in one step and nothing
else changes; before that the frame does not complete (42_frame_transform.md R130, 20_memory.md R71). -/
def Obligations.FrameCompletesWhenAllIsWritten : Prop :=
  ∀ s : State, s.phase = .running →
    (s.inflight = [] → (∀ x y, x < s.frame.width.toNat → y < s.frame.height.toNat → (x, y) ∈ s.donePx) →
      deliver .finish s = .next { s with phase := .idle, intDone := true }) ∧
    (s.inflight ≠ [] ∨ (∃ x y, x < s.frame.width.toNat ∧ y < s.frame.height.toNat ∧ (x, y) ∉ s.donePx) →
      deliver .finish s = .next s)

/-- An error response aborts the frame: no further pixel is processed, what is outstanding completes, then `BusError` is
recorded and `BUSY` goes to 0 in one step without `DONE`; every destination pixel byte then holds a free byte, any
value, and no other byte has changed, no source byte among them (60_exceptions.md R179, R185). That one reply answers a
whole sample, that a write answered with an error stores nothing, and what a second error does, is the model's reading
(assumption 11). -/
def Obligations.BusErrorAbortsTheFrame : Prop :=
  (∀ (s : State) (p : Pixel) (picks : List Nat), s.phase = .running → s.frame.Ok → s.frame.hasPixel p = true →
    p ∉ s.donePx → deliver (.pixel p.1 p.2 picks .error) s = .next { s with phase := .aborting }) ∧
  (∀ (s : State) (k : Nat) (c : Host.Cell), s.phase = .running ∨ s.phase = .aborting → s.inflight[k]? = some c →
    deliver (.complete k .error) s = .next { s with phase := .aborting, inflight := s.inflight.eraseIdx k }) ∧
  (∀ (s : State) (x y : Nat) (picks : List Nat) (r : BusReply), s.phase = .aborting →
    deliver (.pixel x y picks r) s = .next s) ∧
  (∀ s : State, s.phase = .aborting → s.inflight ≠ [] → deliver .finish s = .next s) ∧
  (∀ s : State, s.phase = .aborting → s.inflight = [] →
    ∃ t, deliver .finish s = .next t ∧
      t = { s with phase := .idle, errCode := .busError, intErr := true, mem := t.mem, freeCount := t.freeCount } ∧
      (∀ a, a ∉ s.frame.dstBytes → readByte t.mem a = readByte s.mem a) ∧
      (s.frame.Ok → ∀ p j, s.frame.hasPixel p = true → j < s.frame.inFmt.bytes →
        readByte t.mem (s.frame.srcAddr p + j) = readByte s.mem (s.frame.srcAddr p + j)) ∧
      (s.frame.Ok → s.mem.wf = true → ∀ a ∈ s.frame.dstBytes,
        ∃ n, s.freeCount ≤ n ∧ n < t.freeCount ∧ readByte t.mem a = Config.freeByte n))

/-! ### Reset -/

/-- After reset the block is idle, has no negotiated context, masks every interrupt cause, and waits for register
transactions: with none to come a step changes nothing (70_reset_and_hazards.md R198). -/
def Obligations.ResetLeavesAnIdleBlock : Prop :=
  State.reset.phase = .idle ∧ State.reset.buildBusy = false ∧ State.reset.negValid = false ∧
  State.reset.doneEn = false ∧ State.reset.errEn = false ∧ State.reset.irq = false ∧
  State.reset.farCut.toNat = 0xFFFF ∧ State.reset.nearCut.toNat = 0 ∧ State.reset.preset = .none ∧
  State.reset.errCode = .none ∧ State.reset.ovr = false ∧ step State.reset = .next State.reset

/-- The reset input from any state: every register at its reset value, no build, no frame, nothing in flight, the
interrupt output 0, the palette ROM kept; the destination pixel bytes of an abandoned frame hold free bytes, any value,
and no other byte of frame memory changes (70_reset_and_hazards.md R197, R199, 10_state.md R55). That outstanding
requests are discarded, and that the events to come are kept, is the model's reading (assumption 12). -/
def Obligations.ResetInputRestoresEveryRegister : Prop :=
  ∀ s : State, ∃ t, deliver .reset s = .next t ∧
    t.phase = .idle ∧ t.buildBusy = false ∧ t.negValid = false ∧ t.ovr = false ∧ t.errCode = .none ∧
    t.intDone = false ∧ t.intErr = false ∧ t.doneEn = false ∧ t.errEn = false ∧ t.irq = false ∧
    t.preset = .none ∧ t.nearCut = 0 ∧ t.farCut = 0xFFFF ∧ t.fmt = ⟨0, 0⟩ ∧ t.geom = ⟨0, 0⟩ ∧
    t.ctxIn.code = 0 ∧ t.ctxOut.code = 0 ∧ t.ctxGeom = ⟨0, 0⟩ ∧
    t.srcBase = 0 ∧ t.srcStride = 0 ∧ t.srcGeom = ⟨0, 0⟩ ∧ t.srcFmt = 0 ∧
    t.dstBase = 0 ∧ t.dstStride = 0 ∧ t.dstGeom = ⟨0, 0⟩ ∧ t.dstFmt = 0 ∧
    t.buildPreset = none ∧ t.donePx = [] ∧ t.inflight = [] ∧ t.jetRom = s.jetRom ∧ t.inputs = s.inputs ∧
    (s.phase = .idle → t.mem = s.mem) ∧ (∀ a, a ∉ s.frame.dstBytes → readByte t.mem a = readByte s.mem a) ∧
    (s.phase ≠ .idle → s.frame.Ok → s.mem.wf = true → ∀ a ∈ s.frame.dstBytes,
      ∃ n, s.freeCount ≤ n ∧ n < t.freeCount ∧ readByte t.mem a = Config.freeByte n)

/-! ### Headline results -/

/-- The block's invariant is kept by every step, from every state that has it (20_memory.md R56; 10_state.md R35, R51, R54;
42_frame_transform.md R125, R145; 40_configuration.md R96, R97). -/
def Obligations.BlockInvariantIsKept : Prop :=
  ∀ s t : State, BlockInv s → step s = .next t → BlockInv t

/-- The block's invariant holds after reset. -/
def Obligations.BlockInvariantHoldsAtReset : Prop := BlockInv State.reset

/-- A state with the block's invariant never faults: no engine access leaves frame memory (42_frame_transform.md R132,
R145; 20_memory.md R59). -/
def Obligations.NoFaultUnderTheInvariant : Prop :=
  ∀ (s : State) (r : Fault), BlockInv s → step s ≠ .fault r

/-- Publication starts a frame's progress on the memory it then sees (R99, 20_memory.md R72). -/
def Obligations.PublicationStartsTheFrame : Prop :=
  ∀ s t : State, BlockInv s → s.phase = .fenced → s.buildBusy = false →
    (∀ c ∈ s.raced, s.frame.inSrcPlane c.1 = false) →
    (s.frame.preset = .jet → s.lutShadow = s.jetRom) → deliver .publish s = .next t → FrameProgress s.jetRom s.mem t

/-- Every step that leaves a frame alone keeps its progress or completes it with the whole frame written, in whatever order
the agents take their turns, whatever registers the host writes and whatever it stores outside the frame's planes meanwhile;
every byte that is no destination pixel byte is then as the host left it (20_memory.md R73, 42_frame_transform.md R127 to
R130, R145, 70_reset_and_hazards.md R206). -/
def Obligations.FrameProgressIsKeptOrTheFrameIsWritten : Prop :=
  ∀ (rom : Lut) (m0 : Memory) (s t : State), BlockInv s → FrameProgress rom m0 s → NextEventCalm s →
    step s = .next t →
    let m1 := hostStores (s.inputs.take 1) m0
    t.frame = s.frame ∧
    (FrameProgress rom m1 t ∨ (t.phase = .idle ∧ t.intDone = true ∧ FrameWritten s.frame rom m1 t.mem))

/-- Every frame in progress completes or aborts: with no further event to come, the block's own turns end it
(42_frame_transform.md R127, 70_reset_and_hazards.md R211; the order of the turns is the model's, assumption 6). -/
def Obligations.EveryFrameCompletesOrAborts : Prop :=
  ∀ s : State, BlockInv s → s.inputs = [] → s.phase ≠ .idle →
    ∃ k u, Sys2Proof.core.run k s = .next u ∧ u.phase = .idle ∧
      ((u.intDone = true ∧ u.errCode = s.errCode) ∨ (u.errCode = .busError ∧ u.intErr = true))

/-- From an idle block, an accepted PROCESS ends with the destination holding the picture of the source under the latched
configuration, `DONE` set and no error recorded, whatever events come meanwhile that leave the frame alone and write no
register: register reads, host loads, host stores outside the two planes, and turns of the builder, the engine and the
platform in any order. Every byte that is no destination pixel byte is as the host left it (42_frame_transform.md R124,
R127, R130, R145, 20_memory.md R73; when the events have come, the order of the turns is the model's, assumption 6). -/
def Obligations.AcceptedProcessWritesThePicture : Prop :=
  ∀ s t : State, BlockInv s → s.phase = .idle → (∀ e ∈ s.inputs, e.watches s.latched = true) →
    exec .cmdProcess s = .next t → t.phase = .fenced →
    ∃ k u, Sys2Proof.core.run k t = .next u ∧ u.inputs = [] ∧ u.phase = .idle ∧ u.intDone = true ∧
      u.errCode = s.errCode ∧ FrameWritten s.latched s.jetRom (hostStores s.inputs s.mem) u.mem
end

