-- ==== Sys2Proof/Laws/Decode.lean ====
section
/-! SUPPORT. A transaction word and its three fields determine each other (30_encoding.md R78). -/

namespace Sys2Proof

@[simp] theorem TWord.we_ofFields (we : Bool) (off : Offset) (d : Word) : (TWord.ofFields we off d).we = we := by
  simp only [TWord.we, TWord.ofFields, BitVec.getLsbD_cast, BitVec.getLsbD_append]
  simp

@[simp] theorem TWord.off_ofFields (we : Bool) (off : Offset) (d : Word) : (TWord.ofFields we off d).off = off := by
  apply BitVec.eq_of_getLsbD_eq
  intro i hi
  simp only [TWord.off, TWord.ofFields, BitVec.getLsbD_extractLsb', BitVec.getLsbD_cast, BitVec.getLsbD_append]
  simp [hi]

@[simp] theorem TWord.data_ofFields (we : Bool) (off : Offset) (d : Word) : (TWord.ofFields we off d).data = d := by
  apply BitVec.eq_of_getLsbD_eq
  intro i hi
  simp only [TWord.data, TWord.ofFields, BitVec.getLsbD_extractLsb', BitVec.getLsbD_cast, BitVec.getLsbD_append]
  simp [hi]

/-- No bit of a transaction word lies outside its three fields. -/
theorem TWord.ofFields_fields (t : TWord) : TWord.ofFields t.we t.off t.data = t := by
  apply BitVec.eq_of_getLsbD_eq
  intro i hi
  simp only [TWord.ofFields, TWord.we, TWord.off, TWord.data, BitVec.getLsbD_cast, BitVec.getLsbD_append,
    BitVec.getLsbD_extractLsb', BitVec.getLsbD_ofBool]
  split
  · simp [*]
  · split
    · simp [*, show 32 + (i - 32) = i by omega]
    · simp [show i = 44 by omega]

/-- Decoding goes by the three fields alone (R79). -/
@[simp] theorem decode_ofFields (we : Bool) (off : Offset) (d : Word) :
    decode (TWord.ofFields we off d) = decodeFields we off d := by
  simp [decode]

end Sys2Proof
end

