-- ==== Sys2Proof/Laws/Operands.lean ====
section
/-! SUPPORT. The numbers that operand fields and register values are (30_encoding.md R81, 10_state.md R26 to R43). -/

namespace Sys2Proof.Machine

/-- A field above `n` bits weighs `2^n` (00_scope.md R12). -/
theorem toNat_append_eq {m n : Nat} (x : BitVec m) (y : BitVec n) : (x ++ y).toNat = x.toNat * 2 ^ n + y.toNat := by
  rw [BitVec.toNat_append, Nat.shiftLeft_eq, Nat.mul_comm, Nat.two_pow_add_eq_or_of_lt y.isLt]

@[simp] theorem lowHalf_toNat (d : Word) : (lowHalf d).toNat = d.toNat % 65536 := by
  simp [lowHalf, BitVec.extractLsb'_toNat]

@[simp] theorem highHalf_toNat (d : Word) : (highHalf d).toNat = d.toNat / 65536 := by
  have := d.isLt
  simp only [highHalf, BitVec.extractLsb'_toNat, Nat.shiftRight_eq_div_pow]
  omega

@[simp] theorem fmtCodeOf_toNat (d : Word) : (fmtCodeOf d).toNat = d.toNat % 16 := by
  simp [fmtCodeOf, BitVec.extractLsb'_toNat]

@[simp] theorem fmtOf_inFmt_toNat (d : Word) : (fmtOf d).inFmt.toNat = d.toNat % 16 := fmtCodeOf_toNat d

@[simp] theorem fmtOf_outFmt_toNat (d : Word) : (fmtOf d).outFmt.toNat = d.toNat / 256 % 16 := by
  simp [fmtOf, BitVec.extractLsb'_toNat, Nat.shiftRight_eq_div_pow]

@[simp] theorem geomOf_width_toNat (d : Word) : (geomOf d).width.toNat = d.toNat % 65536 := lowHalf_toNat d

@[simp] theorem geomOf_height_toNat (d : Word) : (geomOf d).height.toNat = d.toNat / 65536 := highHalf_toNat d

@[simp] theorem halfWord_toNat (h : Half) : (halfWord h).toNat = h.toNat :=
  (toNat_append_eq 0#16 h).trans (by simp)

@[simp] theorem Geom.word_toNat (g : Geom) : g.word.toNat = g.width.toNat + 65536 * g.height.toNat :=
  (toNat_append_eq g.height g.width).trans (by omega)

@[simp] theorem fmtCodeWord_toNat (c : FmtCode) : (fmtCodeWord c).toNat = c.toNat :=
  (toNat_append_eq 0#28 c).trans (by simp)

@[simp] theorem fmtWord_toNat (i o : FmtCode) : (fmtWord i o).toNat = i.toNat + 256 * o.toNat := by
  refine (toNat_append_eq (0#20 ++ o ++ 0#4) i).trans ?_
  rw [toNat_append_eq, toNat_append_eq]
  simp
  omega

@[simp] theorem flagPairWord_toNat (err done : Bool) : (flagPairWord err done).toNat = done.toNat + 2 * err.toNat := by
  cases err <;> cases done <;> rfl

/-- `STATUS` as a number (R26). -/
@[simp] theorem statusWord_toNat (s : State) :
    s.statusWord.toNat =
      s.busy.toNat + 2 * s.buildBusy.toNat + 4 * s.negValid.toNat + 8 * s.ovr.toNat + 256 * s.errCode.code.toNat := by
  unfold State.statusWord
  refine (toNat_append_eq _ _).trans ?_
  rw [toNat_append_eq, toNat_append_eq, toNat_append_eq, toNat_append_eq, toNat_append_eq]
  simp
  omega

/-- The code of a supported input format names it (41_negotiation_dispatch.md R107). -/
@[simp] theorem InFormat.ofCode_code (i : InFormat) : InFormat.ofCode i.code = some i := by cases i <;> rfl

/-- The code of a supported output format names it (R108). -/
@[simp] theorem OutFormat.ofCode_code (o : OutFormat) : OutFormat.ofCode o.code = some o := by cases o <;> rfl

/-- The supported input codes are 0 and 1 (R107). -/
theorem InFormat.ofCode_eq_none (c : FmtCode) : InFormat.ofCode c = none ↔ 2 ≤ c.toNat := by
  revert c; decide

/-- The supported output codes are 0 to 3 (R108). -/
theorem OutFormat.ofCode_eq_none (c : FmtCode) : OutFormat.ofCode c = none ↔ 4 ≤ c.toNat := by
  revert c; decide

/-- A code names the format that has it (R107). -/
theorem InFormat.code_of_ofCode (c : FmtCode) (i : InFormat) (h : InFormat.ofCode c = some i) : i.code = c := by
  revert h; revert i c; decide

/-- A code names the format that has it (R108). -/
theorem OutFormat.code_of_ofCode (c : FmtCode) (o : OutFormat) (h : OutFormat.ofCode c = some o) : o.code = c := by
  revert h; revert o c; decide

/-- What a written preset code is (30_encoding.md R83). -/
theorem Preset.ofCode_cases (d : Word) :
    (d = 0 ∧ Preset.ofCode d = some .none) ∨ (d = 1 ∧ Preset.ofCode d = some .jet)
      ∨ (2 ≤ d.toNat ∧ Preset.ofCode d = Option.none) := by
  by_cases h0 : d = 0
  · exact .inl ⟨h0, by simp [Preset.ofCode, h0]⟩
  · by_cases h1 : d = 1
    · exact .inr (.inl ⟨h1, by simp [Preset.ofCode, h1]⟩)
    · refine .inr (.inr ⟨?_, by rw [Preset.ofCode, if_neg h0, if_neg h1]⟩)
      have := fun h => h0 (BitVec.eq_of_toNat_eq (x := d) (y := 0) h)
      have := fun h => h1 (BitVec.eq_of_toNat_eq (x := d) (y := 1) h)
      simp at *
      omega

end Sys2Proof.Machine
end

