-- ==== Sys2Proof/Laws/Exec.lean ====
section
/-! SUPPORT. What each shared operation behind a transaction can do, said once: the provers cite these instead of unfolding
the operation. -/

namespace Sys2Proof.Machine

/-- Raising an error records it and does nothing else (60_exceptions.md R181). -/
theorem raiseError_eq (c : ErrorCode) (s : State) : raiseError c s = .next { s with errCode := c, intErr := true } := rfl

/-- Answering a read sets the data the host sees and nothing else (20_memory.md R67). -/
theorem answer_eq (v : Word) (s : State) : answer v s = .next { s with readData := v } := rfl

/-- Dropping a command sets `OVR` and nothing else (43_control.md R149). -/
theorem dropCommand_eq (s : State) : dropCommand s = .next { s with ovr := true } := rfl

/-- An unmapped access answers 0 to a read and ignores a write (R153). -/
theorem unmappedAccess_cases (we : Bool) (s t : State) (h : unmappedAccess we s = .next t) :
    (we = true ∧ t = s) ∨ (we = false ∧ t = { s with readData := 0 }) := by
  cases we with
  | true => exact .inl ⟨rfl, by simpa [unmappedAccess, ignoreWrite] using h.symm⟩
  | false => exact .inr ⟨rfl, by simpa [unmappedAccess, answer] using h.symm⟩

theorem busy_iff (s : State) : s.busy = true ↔ s.phase ≠ .idle := by simp [State.busy]

theorem busy_false_iff (s : State) : s.busy = false ↔ s.phase = .idle := by simp [State.busy]

/-- Everything NEGOTIATE can do (41_negotiation_dispatch.md R112). -/
theorem execCmdNegotiate_cases (s : State) :
    (s.busy = true ∧ execCmdNegotiate s = dropCommand s) ∨
    (s.busy = false ∧ (InFormat.ofCode s.fmt.inFmt = none ∨ OutFormat.ofCode s.fmt.outFmt = none
        ∨ s.geom.width = 0 ∨ s.geom.height = 0) ∧ execCmdNegotiate s = raiseError .unsupportedFormat s) ∨
    (∃ i o, s.busy = false ∧ InFormat.ofCode s.fmt.inFmt = some i ∧ OutFormat.ofCode s.fmt.outFmt = some o ∧
      s.geom.width ≠ 0 ∧ s.geom.height ≠ 0 ∧ execCmdNegotiate s = .next (storeContext i o s.geom s)) := by
  unfold execCmdNegotiate
  cases hb : s.busy with
  | true => exact .inl ⟨rfl, rfl⟩
  | false =>
    refine .inr ?_
    cases hi : InFormat.ofCode s.fmt.inFmt with
    | none => exact .inl ⟨rfl, .inl rfl, by simp⟩
    | some i =>
      cases ho : OutFormat.ofCode s.fmt.outFmt with
      | none => exact .inl ⟨rfl, .inr (.inl rfl), by simp⟩
      | some o =>
        by_cases hz : s.geom.width = 0 ∨ s.geom.height = 0
        · exact .inl ⟨rfl, .inr (.inr hz), by simp only [if_pos hz]; simp⟩
        · refine .inr ⟨i, o, rfl, rfl, rfl, fun h => hz (.inl h), fun h => hz (.inr h), ?_⟩
          simp only [if_neg hz]
          simp

/-- Everything PROCESS can do (42_frame_transform.md R124). -/
theorem execCmdProcess_cases (s : State) :
    (s.busy = true ∧ execCmdProcess s = dropCommand s) ∨
    (∃ e, s.busy = false ∧ checkFrame s = some e ∧ execCmdProcess s = raiseError e s) ∨
    (s.busy = false ∧ checkFrame s = none ∧ execCmdProcess s = .next (latchFrame s)) := by
  unfold execCmdProcess
  cases hb : s.busy with
  | true => exact .inl ⟨rfl, rfl⟩
  | false =>
    cases hc : checkFrame s with
    | some e => exact .inr (.inl ⟨e, rfl, rfl, by simp⟩)
    | none => exact .inr (.inr ⟨rfl, rfl, by simp⟩)

/-- Everything a write of `PRESET` can do (40_configuration.md R89). -/
theorem execWrPreset_cases (d : Word) (s : State) :
    (∃ p, Preset.ofCode d = some p ∧ execWrPreset d s = .next (triggerRebuild { s with preset := p })) ∨
    (Preset.ofCode d = none ∧ execWrPreset d s = raiseError .invalidConfiguration s) := by
  unfold execWrPreset
  cases h : Preset.ofCode d with
  | some p => exact .inl ⟨p, rfl, rfl⟩
  | none => exact .inr ⟨rfl, rfl⟩

/-- The checks that pass (42_frame_transform.md R125): what a frame that is accepted satisfies. -/
theorem checkFrame_eq_none (s : State) (h : checkFrame s = none) :
    s.negValid = true ∧ (s.srcBase ≠ 0 ∧ s.dstBase ≠ 0) ∧
    (s.srcFmt = s.ctxIn.code ∧ s.dstFmt = s.ctxOut.code) ∧ (s.srcGeom = s.ctxGeom ∧ s.dstGeom = s.ctxGeom) ∧
    (s.ctxGeom.width.toNat * s.ctxIn.bytes ≤ s.srcStride.toNat ∧
      s.ctxGeom.width.toNat * s.ctxOut.bytes ≤ s.dstStride.toNat) ∧
    (s.srcEnd ≤ Config.memBytes ∧ s.dstEnd ≤ Config.memBytes) ∧
    rangesMeet s.srcBase.toNat s.srcEnd s.dstBase.toNat s.dstEnd = false := by
  unfold checkFrame at h
  split at h
  · cases h
  split at h
  · cases h
  split at h
  · cases h
  split at h
  · cases h
  split at h
  · cases h
  split at h
  · cases h
  split at h
  · cases h
  rename_i h1 h2 h3 h4 h5 h6 h7
  simp only [Bool.not_eq_false, not_or, not_not, Nat.not_lt, Int.not_lt, Bool.not_eq_true] at h1 h2 h3 h4 h5 h6 h7
  exact ⟨h1, h2, h3, h4, h5, h6, h7⟩

/-- Everything a register transaction can do: change registers that no frame, builder, table or context depends on (and
what the host is told); store a negotiated context; accept a frame; or trigger a rebuild. -/
theorem exec_next_cases (i : Instr) (s t : State) (h : exec i s = .next t) :
    (t = { s with
        readData := t.readData, errCode := t.errCode, ovr := t.ovr, intDone := t.intDone, intErr := t.intErr
        doneEn := t.doneEn, errEn := t.errEn, fmt := t.fmt, geom := t.geom, srcBase := t.srcBase
        srcStride := t.srcStride, srcGeom := t.srcGeom, srcFmt := t.srcFmt, dstBase := t.dstBase
        dstStride := t.dstStride, dstGeom := t.dstGeom, dstFmt := t.dstFmt }) ∨
    (∃ ci co, s.phase = .idle ∧ s.geom.width ≠ 0 ∧ s.geom.height ≠ 0 ∧ t = storeContext ci co s.geom s) ∨
    (s.phase = .idle ∧ checkFrame s = none ∧ t = latchFrame s) ∨
    (∃ p n f, t = triggerRebuild { s with preset := p, nearCut := n, farCut := f }) := by
  cases i
  case cmdNegotiate =>
    rcases execCmdNegotiate_cases s with ⟨-, h'⟩ | ⟨-, -, h'⟩ | ⟨ci, co, hb, -, -, hw, hh, h'⟩ <;>
      rw [exec, h'] at h <;> cases h
    · exact .inl rfl
    · exact .inl rfl
    · exact .inr (.inl ⟨ci, co, (busy_false_iff s).1 hb, hw, hh, rfl⟩)
  case cmdProcess =>
    rcases execCmdProcess_cases s with ⟨-, h'⟩ | ⟨e, -, -, h'⟩ | ⟨hb, hc, h'⟩ <;> rw [exec, h'] at h <;> cases h
    · exact .inl rfl
    · exact .inl rfl
    · exact .inr (.inr (.inl ⟨(busy_false_iff s).1 hb, hc, rfl⟩))
  case wrPreset d =>
    rcases execWrPreset_cases d s with ⟨p, -, h'⟩ | ⟨-, h'⟩ <;> rw [exec, h'] at h <;> cases h
    · exact .inr (.inr (.inr ⟨p, s.nearCut, s.farCut, rfl⟩))
    · exact .inl rfl
  case wrNearCut d => cases h; exact .inr (.inr (.inr ⟨s.preset, lowHalf d, s.farCut, rfl⟩))
  case wrFarCut d => cases h; exact .inr (.inr (.inr ⟨s.preset, s.nearCut, lowHalf d, rfl⟩))
  case unmapped050 we _ _ => cases we <;> cases h <;> exact .inl rfl
  case unmapped060 we _ _ => cases we <;> cases h <;> exact .inl rfl
  case unmapped080 we _ _ => cases we <;> cases h <;> exact .inl rfl
  case unmapped100 we _ _ => cases we <;> cases h <;> exact .inl rfl
  case unmapped200 we _ _ => cases we <;> cases h <;> exact .inl rfl
  case unmapped400 we _ _ => cases we <;> cases h <;> exact .inl rfl
  case unmapped800 we _ _ => cases we <;> cases h <;> exact .inl rfl
  all_goals first | (cases h; exact .inl rfl) | cases h

end Sys2Proof.Machine
end

