-- ==== Sys2Proof/Laws/Memory.lean ====
section
/-! SUPPORT. Frame memory: what a byte reads as after each operation, and that every operation keeps the canonical form. -/

namespace Sys2Proof.Machine

@[simp] theorem readByte_nil (a : Nat) : readByte [] a = Config.unlistedByte := rfl

@[simp] theorem readByte_cons (x : Nat) (v : Byte) (m : Memory) (a : Nat) :
    readByte ((x, v) :: m) a = if a = x then v else readByte m a := rfl

theorem Memory.wf_iff (m : Memory) :
    m.wf = true ↔ (m.map (·.1)).Pairwise (· < ·) ∧ ∀ c ∈ m, c.1 < Config.memBytes ∧ c.2 ≠ Config.unlistedByte := by
  simp [Memory.wf]

theorem Memory.wf_nil : Memory.wf [] = true := by decide

/-- The canonical form of a memory whose first entry is (x, v): the entry is a listed byte below every other address. -/
theorem Memory.wf_cons (x : Nat) (v : Byte) (m : Memory) :
    Memory.wf ((x, v) :: m) = true ↔
      (x < Config.memBytes ∧ v ≠ Config.unlistedByte) ∧ (∀ c ∈ m, x < c.1) ∧ m.wf = true := by
  simp only [Memory.wf_iff, List.map_cons, List.pairwise_cons, List.mem_map, List.mem_cons]
  constructor
  · rintro ⟨⟨h1, h2⟩, h3⟩
    exact ⟨h3 _ (.inl rfl), fun c hc => h1 _ ⟨c, hc, rfl⟩, h2, fun c hc => h3 c (.inr hc)⟩
  · rintro ⟨h0, h1, h2, h3⟩
    refine ⟨⟨?_, h2⟩, ?_⟩
    · rintro _ ⟨c, hc, rfl⟩
      exact h1 c hc
    · rintro c (rfl | hc)
      · exact h0
      · exact h3 c hc

/-- An address below every listed one is unlisted. -/
theorem readByte_of_lt (m : Memory) (a : Nat) (h : ∀ c ∈ m, a < c.1) : readByte m a = Config.unlistedByte := by
  induction m with
  | nil => rfl
  | cons c m ih =>
    have := h c (by simp)
    rw [show c = (c.1, c.2) from rfl, readByte_cons, if_neg (by omega)]
    exact ih fun d hd => h d (by simp [hd])

/-- A store leaves every other address alone (20_memory.md R60). -/
theorem readByte_writeByte_other (m : Memory) (a b : Nat) (v : Byte) (h : b ≠ a) :
    readByte (writeByte m a v) b = readByte m b := by
  induction m with
  | nil => simp only [writeByte]; split <;> simp [h]
  | cons c m ih =>
    obtain ⟨x, w⟩ := c
    simp only [writeByte]
    split
    · split <;> simp [h]
    · split
      · rename_i h1; subst h1; split <;> simp [h]
      · simp [ih]

/-- A store is what its address then reads as (R60). -/
theorem readByte_writeByte_same (m : Memory) (a : Nat) (v : Byte) (h : m.wf = true) :
    readByte (writeByte m a v) a = v := by
  induction m with
  | nil =>
    simp only [writeByte]
    split
    · rename_i hv; rw [hv]; rfl
    · simp
  | cons c m ih =>
    obtain ⟨x, w⟩ := c
    obtain ⟨-, hlt, hm⟩ := (Memory.wf_cons x w m).1 h
    simp only [writeByte]
    split
    · rename_i hax
      split
      · rename_i hv
        rw [hv]
        refine readByte_of_lt _ _ ?_
        intro c hc
        rcases List.mem_cons.1 hc with rfl | hc
        · exact hax
        · exact lt_trans hax (hlt c hc)
      · simp
    · split
      · rename_i hax; subst hax
        split
        · rename_i hv; rw [hv]; exact readByte_of_lt _ _ hlt
        · simp
      · rename_i hne; rw [readByte_cons, if_neg hne]; exact ih hm

/-- What any byte reads as after a store. -/
theorem readByte_writeByte (m : Memory) (a b : Nat) (v : Byte) (h : m.wf = true) :
    readByte (writeByte m a v) b = if b = a then v else readByte m b := by
  split
  · rename_i hb; rw [hb, readByte_writeByte_same m a v h]
  · rename_i hb; exact readByte_writeByte_other m a b v hb

theorem mem_writeByte (m : Memory) (a : Nat) (v : Byte) (c : Host.Cell) (h : c ∈ writeByte m a v) :
    c ∈ m ∨ c = (a, v) ∧ v ≠ Config.unlistedByte := by
  induction m with
  | nil =>
    simp only [writeByte] at h
    split at h
    · simp at h
    · rename_i hv; exact .inr ⟨by simpa using h, hv⟩
  | cons d m ih =>
    obtain ⟨x, w⟩ := d
    simp only [writeByte] at h
    split at h
    · split at h
      · exact .inl h
      · rename_i hv
        rcases List.mem_cons.1 h with h | h
        · exact .inr ⟨h, hv⟩
        · exact .inl h
    · split at h
      · split at h
        · exact .inl (by simp [h])
        · rename_i hv
          rcases List.mem_cons.1 h with h | h
          · exact .inr ⟨h, hv⟩
          · exact .inl (by simp [h])
      · rcases List.mem_cons.1 h with h | h
        · exact .inl (by simp [h])
        · rcases ih h with h | h
          · exact .inl (by simp [h])
          · exact .inr h

/-- A store keeps the canonical form. -/
theorem writeByte_wf (m : Memory) (a : Nat) (v : Byte) (h : m.wf = true) (ha : a < Config.memBytes) :
    (writeByte m a v).wf = true := by
  induction m with
  | nil =>
    simp only [writeByte]
    split
    · rfl
    · rename_i hv; exact (Memory.wf_cons _ _ _).2 ⟨⟨ha, hv⟩, by simp, rfl⟩
  | cons c m ih =>
    obtain ⟨x, w⟩ := c
    have hc := h
    obtain ⟨hx, hlt, hm⟩ := (Memory.wf_cons x w m).1 h
    simp only [writeByte]
    split
    · rename_i hax
      split
      · exact hc
      · rename_i hv
        refine (Memory.wf_cons _ _ _).2 ⟨⟨ha, hv⟩, ?_, hc⟩
        intro c hcm
        rcases List.mem_cons.1 hcm with rfl | hcm
        · exact hax
        · exact lt_trans hax (hlt c hcm)
    · split
      · rename_i hax; subst hax
        split
        · exact hm
        · rename_i hv; exact (Memory.wf_cons _ _ _).2 ⟨⟨ha, hv⟩, hlt, hm⟩
      · rename_i h1 h2
        refine (Memory.wf_cons _ _ _).2 ⟨hx, ?_, ih hm⟩
        intro c hcm
        rcases mem_writeByte m a v c hcm with hcm | ⟨rfl, -⟩
        · exact hlt c hcm
        · show x < a; omega

/-- The byte writes of a `MemWrite`: byte `j` at `addr + j` (R60). -/
theorem mem_memWriteCells (addr : Nat) (bs : List Byte) (c : Host.Cell) :
    c ∈ memWriteCells addr bs ↔ ∃ j, ∃ h : j < bs.length, c = (addr + j, bs[j]) := by
  induction bs generalizing addr with
  | nil => simp [memWriteCells]
  | cons b bs ih =>
    simp only [memWriteCells, List.mem_cons, ih]
    constructor
    · rintro (rfl | ⟨j, hj, rfl⟩)
      · exact ⟨0, by simp, by simp⟩
      · exact ⟨j + 1, by simpa using hj, by simp only [List.getElem_cons_succ, Prod.mk.injEq, and_true]; omega⟩
    · rintro ⟨j, hj, rfl⟩
      cases j with
      | zero => exact .inl (by simp)
      | succ j =>
        exact .inr ⟨j, by simpa using hj, by simp only [List.getElem_cons_succ, Prod.mk.injEq, and_true]; omega⟩

@[simp] theorem length_memWriteCells (addr : Nat) (bs : List Byte) :
    (memWriteCells addr bs).length = bs.length := by
  induction bs generalizing addr with
  | nil => rfl
  | cons b bs ih => simp [memWriteCells, ih]

/-- Bytes set to any value leave every other byte alone. -/
theorem readByte_scramble_other (m : Memory) (n : Nat) (as : List Nat) (b : Nat) (h : b ∉ as) :
    readByte (scramble m n as) b = readByte m b := by
  induction as generalizing m n with
  | nil => rfl
  | cons a as ih =>
    simp only [List.mem_cons, not_or] at h
    rw [scramble, ih _ _ h.2, readByte_writeByte_other _ _ _ _ h.1]

/-- Setting bytes to any value keeps the canonical form. -/
theorem scramble_wf (m : Memory) (n : Nat) (as : List Nat) (h : m.wf = true) (ha : ∀ a ∈ as, a < Config.memBytes) :
    (scramble m n as).wf = true := by
  induction as generalizing m n with
  | nil => exact h
  | cons a as ih =>
    exact ih _ _ (writeByte_wf m a _ h (ha a (by simp))) fun b hb => ha b (by simp [hb])

/-- What a race gives: the present byte, or one the host has replaced at that address (20_memory.md R73). -/
theorem racedByte_cases (m : Memory) (raced : List Host.Cell) (pick a : Nat) :
    racedByte m raced pick a = readByte m a ∨ (a, racedByte m raced pick a) ∈ raced := by
  unfold racedByte raceCandidates
  rw [List.getD_eq_getElem?_getD]
  cases pick with
  | zero => exact .inl (by simp)
  | succ k =>
    simp only [List.getElem?_cons_succ, List.getElem?_map]
    cases h : (raced.filter fun c => c.1 == a)[k]? with
    | none => exact .inl (by simp)
    | some c =>
      have hc := List.mem_of_getElem? h
      simp only [List.mem_filter, beq_iff_eq] at hc
      obtain ⟨h1, rfl⟩ := hc
      exact .inr (by simpa using h1)

/-- Each byte a race admits is given by some pick (R73). -/
theorem exists_racedByte (m : Memory) (raced : List Host.Cell) (a : Nat) (b : Byte)
    (h : b = readByte m a ∨ (a, b) ∈ raced) : ∃ pick, racedByte m raced pick a = b := by
  unfold racedByte raceCandidates
  rcases h with rfl | h
  · exact ⟨0, by simp⟩
  · have hb : b ∈ (raced.filter fun c => c.1 == a).map (·.2) :=
      List.mem_map.2 ⟨(a, b), List.mem_filter.2 ⟨h, by simp⟩, rfl⟩
    obtain ⟨k, hk⟩ := List.mem_iff_getElem?.1 hb
    refine ⟨k + 1, ?_⟩
    rw [List.getD_eq_getElem?_getD, List.getElem?_cons_succ, hk, Option.getD_some]

/-- Where the host has not raced with the frame, every pick is the present byte (20_memory.md R73). -/
@[simp] theorem racedByte_nil (m : Memory) (pick a : Nat) : racedByte m [] pick a = readByte m a := by
  cases pick <;> simp [racedByte, raceCandidates]

/-- Where the host has not raced with the frame, a sample is a plain little-endian read (R59, R133). -/
@[simp] theorem memReadRaced_nil (m : Memory) (picks : List Nat) (addr n : Nat) :
    memReadRaced m [] picks addr n = memRead m addr n := by
  simp [memReadRaced, memRead, memReadBy]

theorem memRead_one (m : Memory) (a : Nat) : memRead m a 1 = (readByte m a).toNat := by
  simp [memRead, memReadBy, leValue]

theorem memRead_two (m : Memory) (a : Nat) :
    memRead m a 2 = (readByte m a).toNat + 256 * (readByte m (a + 1)).toNat := by
  simp [memRead, memReadBy, leValue, List.range_succ]

/-- A read depends on the bytes it reads alone. -/
theorem memRead_congr (m m' : Memory) (addr n : Nat) (h : ∀ j < n, readByte m (addr + j) = readByte m' (addr + j)) :
    memRead m addr n = memRead m' addr n := by
  unfold memRead memReadBy
  congr 1
  refine List.map_congr_left fun j hj => h j (List.mem_range.1 hj)

end Sys2Proof.Machine
end

