-- ==== Sys2Proof/Laws/Frame.lean ====
section
/-! SUPPORT. Pixels, their bytes, and that the bytes of different pixels are different (42_frame_transform.md R127, R132,
R145). -/

namespace Sys2Proof.Machine

theorem mem_pixelsOf (w h : Nat) (p : Pixel) : p ∈ pixelsOf w h ↔ p.1 < w ∧ p.2 < h := by
  obtain ⟨x, y⟩ := p
  simp [pixelsOf]
  tauto

theorem FrameLatch.hasPixel_iff (f : FrameLatch) (p : Pixel) :
    f.hasPixel p = true ↔ p.1 < f.width.toNat ∧ p.2 < f.height.toNat := by
  simp [FrameLatch.hasPixel]

theorem FrameLatch.mem_pixels (f : FrameLatch) (p : Pixel) : p ∈ f.pixels ↔ f.hasPixel p = true := by
  rw [FrameLatch.pixels, mem_pixelsOf, FrameLatch.hasPixel_iff]

theorem FrameLatch.mem_dstBytes (f : FrameLatch) (a : Nat) :
    a ∈ f.dstBytes ↔ ∃ p, f.hasPixel p = true ∧ ∃ j < f.outFmt.bytes, a = f.dstAddr p + j := by
  simp only [FrameLatch.dstBytes, List.mem_flatMap, FrameLatch.mem_pixels, List.mem_map, List.mem_range]
  exact ⟨fun ⟨p, hp, j, hj, h⟩ => ⟨p, hp, j, hj, h.symm⟩, fun ⟨p, hp, j, hj, h⟩ => ⟨p, hp, j, hj, h.symm⟩⟩

theorem length_pack (o : OutFormat) (c : Rgb) : (pack o c).length = o.bytes := by cases o <;> rfl

/-- A pixel's bytes lie in its row, and the row's pixel bytes fit the stride. -/
theorem rowOffset_lt {x w b j stride : Nat} (hx : x < w) (hj : j < b) (hs : w * b ≤ stride) : x * b + j < stride := by
  have : (x + 1) * b ≤ w * b := Nat.mul_le_mul_right b hx
  rw [Nat.add_mul] at this
  omega

/-- Offsets below the stride tell their rows apart. -/
theorem row_eq_of_offset {y y' stride r r' : Nat} (hr : r < stride) (hr' : r' < stride)
    (h : y * stride + r = y' * stride + r') : y = y' ∧ r = r' := by
  have key : ∀ {a b q t : Nat}, q < stride → a * stride + q = b * stride + t → a < b → False := by
    intro a b q t hq hab hlt
    have : (a + 1) * stride ≤ b * stride := Nat.mul_le_mul_right stride hlt
    rw [Nat.add_mul] at this
    omega
  rcases lt_trichotomy y y' with hlt | heq | hgt
  · exact (key hr h hlt).elim
  · subst heq; exact ⟨rfl, by omega⟩
  · exact (key hr' h.symm hgt).elim

/-- Two destination bytes at one address belong to one pixel and are one byte of it (R145: each byte is written once). -/
theorem FrameLatch.dst_unique (f : FrameLatch) (hf : f.Ok) {p q : Pixel} {i j : Nat} (hp : f.hasPixel p = true)
    (hq : f.hasPixel q = true) (hi : i < f.outFmt.bytes) (hj : j < f.outFmt.bytes)
    (h : f.dstAddr p + i = f.dstAddr q + j) : p = q ∧ i = j := by
  rw [FrameLatch.hasPixel_iff] at hp hq
  simp only [FrameLatch.dstAddr] at h
  obtain ⟨hy, hr⟩ := row_eq_of_offset (rowOffset_lt hp.1 hi hf.dst_stride) (rowOffset_lt hq.1 hj hf.dst_stride)
    (show p.2 * f.dstStride.toNat + (p.1 * f.outFmt.bytes + i) = q.2 * f.dstStride.toNat + (q.1 * f.outFmt.bytes + j) by
      omega)
  obtain ⟨hx, hij⟩ := row_eq_of_offset hi hj hr
  exact ⟨Prod.ext hx hy, hij⟩

/-- A plane's pixel bytes lie below its end (R125 check 6). -/
theorem pixelByte_lt_planeEnd {base stride w h bpp x y j : Nat} (hx : x < w) (hy : y < h) (hj : j < bpp) :
    ((base + y * stride + x * bpp + j : Nat) : Int) < planeEnd base stride w h bpp := by
  have h1 : (y : Int) * stride ≤ ((h : Int) - 1) * stride := by gcongr; omega
  have h2 : ((x * bpp + j : Nat) : Int) < (w * bpp : Nat) := by exact_mod_cast rowOffset_lt hx hj le_rfl
  unfold planeEnd
  push_cast at h2 ⊢
  omega

/-- A plane that is not empty ends after its base. -/
theorem base_lt_planeEnd {base stride w h bpp : Nat} (hw : 0 < w) (hh : 0 < h) (hb : 0 < bpp) :
    (base : Int) < planeEnd base stride w h bpp := by
  have := pixelByte_lt_planeEnd (base := base) (stride := stride) hw hh hb
  simpa using this

theorem FrameLatch.dstByte_lt (f : FrameLatch) (hf : f.Ok) (a : Nat) (h : a ∈ f.dstBytes) : a < Config.memBytes := by
  obtain ⟨p, hp, j, hj, rfl⟩ := (f.mem_dstBytes a).1 h
  rw [FrameLatch.hasPixel_iff] at hp
  exact_mod_cast lt_of_lt_of_le (pixelByte_lt_planeEnd hp.1 hp.2 hj) hf.dst_end

/-- The source bytes of a pixel are no destination bytes (R125 check 7, R145). -/
theorem FrameLatch.src_not_dst (f : FrameLatch) (hf : f.Ok) {p : Pixel} {j : Nat} (hp : f.hasPixel p = true)
    (hj : j < f.inFmt.bytes) : f.srcAddr p + j ∉ f.dstBytes := by
  intro h
  obtain ⟨q, hq, i, hi, hqa⟩ := (f.mem_dstBytes _).1 h
  rw [FrameLatch.hasPixel_iff] at hp hq
  have h1 : ((f.srcAddr p + j : Nat) : Int) < _ := pixelByte_lt_planeEnd (base := f.srcBase.toNat) hp.1 hp.2 hj
  have h2 : ((f.dstAddr q + i : Nat) : Int) < _ := pixelByte_lt_planeEnd (base := f.dstBase.toNat) hq.1 hq.2 hi
  have h3 : f.srcBase.toNat ≤ f.srcAddr p + j := by unfold FrameLatch.srcAddr; omega
  have h4 : f.dstBase.toNat ≤ f.dstAddr q + i := by unfold FrameLatch.dstAddr; omega
  rcases hf.apart with h | h <;> omega

/-- The cells of a pixel: byte `j` of the packed color at destination address + `j` (R144). -/
theorem mem_frameCells (f : FrameLatch) (rom : Lut) (m : Memory) (p : Pixel) (c : Host.Cell) :
    c ∈ frameCells f rom m p ↔
      ∃ j, ∃ h : j < (pack f.outFmt (f.color rom (memRead m (f.srcAddr p) f.inFmt.bytes))).length,
        c = (f.dstAddr p + j, (pack f.outFmt (f.color rom (memRead m (f.srcAddr p) f.inFmt.bytes)))[j]) :=
  mem_memWriteCells _ _ _

theorem frameCells_dst (f : FrameLatch) (rom : Lut) (m : Memory) (p : Pixel) (hp : f.hasPixel p = true) (c : Host.Cell)
    (h : c ∈ frameCells f rom m p) : c.1 ∈ f.dstBytes := by
  obtain ⟨j, hj, rfl⟩ := (mem_frameCells f rom m p c).1 h
  exact (f.mem_dstBytes _).2 ⟨p, hp, j, by rwa [length_pack] at hj, rfl⟩

/-- Two cells of a frame at one address are one cell. -/
theorem frameCells_unique (f : FrameLatch) (hf : f.Ok) (rom : Lut) (m : Memory) {p q : Pixel} {c d : Host.Cell}
    (hp : f.hasPixel p = true) (hq : f.hasPixel q = true) (hc : c ∈ frameCells f rom m p)
    (hd : d ∈ frameCells f rom m q) (h : c.1 = d.1) : c = d := by
  obtain ⟨i, hi, rfl⟩ := (mem_frameCells f rom m p c).1 hc
  obtain ⟨j, hj, rfl⟩ := (mem_frameCells f rom m q d).1 hd
  obtain ⟨rfl, rfl⟩ := f.dst_unique hf hp hq (by rwa [length_pack] at hi) (by rwa [length_pack] at hj) h
  rfl

/-- The bytes of a pixel of a frame that passed its checks exist (R125 check 6, R132). -/
theorem planeBytes_inFrameMemory {base stride w h bpp x y : Nat} (hx : x < w) (hy : y < h) (hb : 0 < bpp)
    (he : planeEnd base stride w h bpp ≤ 2 ^ 32) : inFrameMemory (base + y * stride + x * bpp) bpp = true := by
  have h1 := lt_of_lt_of_le (pixelByte_lt_planeEnd (base := base) (stride := stride) hx hy (Nat.sub_lt hb one_pos)) he
  have h2 : base + y * stride + x * bpp + (bpp - 1) < 2 ^ 32 := by exact_mod_cast h1
  refine decide_eq_true (show _ ≤ 2 ^ 32 from ?_)
  omega

theorem FrameLatch.src_inFrameMemory (f : FrameLatch) (hf : f.Ok) {p : Pixel} (hp : f.hasPixel p = true) :
    inFrameMemory (f.srcAddr p) f.inFmt.bytes = true :=
  planeBytes_inFrameMemory ((f.hasPixel_iff p).1 hp).1 ((f.hasPixel_iff p).1 hp).2 (by cases f.inFmt <;> decide)
    hf.src_end

theorem FrameLatch.dst_inFrameMemory (f : FrameLatch) (hf : f.Ok) {p : Pixel} (hp : f.hasPixel p = true) :
    inFrameMemory (f.dstAddr p) f.outFmt.bytes = true :=
  planeBytes_inFrameMemory ((f.hasPixel_iff p).1 hp).1 ((f.hasPixel_iff p).1 hp).2 (by cases f.outFmt <;> decide)
    hf.dst_end

/-- A sample byte of a pixel lies in the source plane. -/
theorem FrameLatch.inSrcPlane_sample (f : FrameLatch) {p : Pixel} {j : Nat} (hp : f.hasPixel p = true)
    (hj : j < f.inFmt.bytes) : f.inSrcPlane (f.srcAddr p + j) = true := by
  rw [FrameLatch.hasPixel_iff] at hp
  have h := pixelByte_lt_planeEnd (base := f.srcBase.toNat) (stride := f.srcStride.toNat) hp.1 hp.2 hj
  simp only [FrameLatch.inSrcPlane, Bool.and_eq_true, decide_eq_true_eq]
  exact ⟨by unfold FrameLatch.srcAddr; omega, h⟩

/-- A destination pixel byte lies in the destination plane. -/
theorem FrameLatch.inDstPlane_dstByte (f : FrameLatch) {a : Nat} (h : a ∈ f.dstBytes) : f.inDstPlane a = true := by
  obtain ⟨p, hp, j, hj, rfl⟩ := (f.mem_dstBytes a).1 h
  rw [FrameLatch.hasPixel_iff] at hp
  have h := pixelByte_lt_planeEnd (base := f.dstBase.toNat) (stride := f.dstStride.toNat) hp.1 hp.2 hj
  simp only [FrameLatch.inDstPlane, Bool.and_eq_true, decide_eq_true_eq]
  exact ⟨by unfold FrameLatch.dstAddr; omega, h⟩

end Sys2Proof.Machine
end

