-- ==== Sys2Proof/Laws/Engine.lean ====
section
/-! SUPPORT. What each agent's step can do, said once, and what one step of the machine is. -/

namespace Sys2Proof.Machine

/-- The builder's step: nothing, or the completion of the build (40_configuration.md R97). -/
theorem buildStep_cases (s : State) :
    (s.buildBusy = false ∧ buildStep s = s) ∨
    (s.buildBusy = true ∧ buildStep s =
      { s with lutShadow := buildTable s.buildPreset s.jetRom s.lutShadow, buildBusy := false }) := by
  unfold buildStep
  cases h : s.buildBusy <;> simp

/-- Publication: nothing, or the pass of the fence with the shadow bank copied for a JET frame (R98, R99). -/
theorem publishStep_cases (s : State) :
    (¬ (s.phase = .fenced ∧ s.buildBusy = false) ∧ publishStep s = s) ∨
    (s.phase = .fenced ∧ s.buildBusy = false ∧ s.frame.preset = .jet ∧
      publishStep s = { s with phase := .running, lutActive := s.lutShadow }) ∨
    (s.phase = .fenced ∧ s.buildBusy = false ∧ s.frame.preset = .none ∧
      publishStep s = { s with phase := .running }) := by
  unfold publishStep
  by_cases h : s.phase = .fenced ∧ s.buildBusy = false
  · rw [if_pos h]
    cases hp : s.frame.preset with
    | jet => exact .inr (.inl ⟨h.1, h.2, rfl, rfl⟩)
    | none => exact .inr (.inr ⟨h.1, h.2, rfl, rfl⟩)
  · exact .inl ⟨h, if_neg h⟩

theorem pixelEnabled_iff (s : State) (p : Pixel) :
    s.pixelEnabled p = true ↔ s.phase = .running ∧ s.frame.hasPixel p = true ∧ p ∉ s.donePx := by
  simp [State.pixelEnabled, and_assoc]

/-- The pixel step: nothing, a fault outside frame memory, an abort on an error response, or the pixel's writes issued
(42_frame_transform.md R131, R133). -/
theorem pixelStep_cases (p : Pixel) (picks : List Nat) (reply : BusReply) (s : State) :
    (s.pixelEnabled p = false ∧ pixelStep p picks reply s = .next s) ∨
    (s.pixelEnabled p = true ∧ (inFrameMemory (s.frame.srcAddr p) s.frame.inFmt.bytes = false
        ∨ inFrameMemory (s.frame.dstAddr p) s.frame.outFmt.bytes = false) ∧
      pixelStep p picks reply s = .fault .addressOutsideFrameMemory) ∨
    (s.pixelEnabled p = true ∧ reply = .error ∧ pixelStep p picks reply s = .next { s with phase := .aborting }) ∨
    (s.pixelEnabled p = true ∧ reply = .ok ∧ pixelStep p picks reply s =
      .next { s with inflight := s.inflight ++ s.pixelCells p picks, donePx := p :: s.donePx }) := by
  unfold pixelStep
  cases he : s.pixelEnabled p with
  | false => exact .inl ⟨rfl, rfl⟩
  | true =>
    refine .inr ?_
    by_cases hf : inFrameMemory (s.frame.srcAddr p) s.frame.inFmt.bytes = false
        ∨ inFrameMemory (s.frame.dstAddr p) s.frame.outFmt.bytes = false
    · exact .inl ⟨rfl, hf, by rw [if_neg (by simp), if_pos hf]⟩
    · rw [if_neg (by simp), if_neg hf]
      cases reply with
      | error => exact .inr (.inl ⟨rfl, rfl, rfl⟩)
      | ok => exact .inr (.inr ⟨rfl, rfl, rfl⟩)

theorem onTheBus_iff (s : State) : s.onTheBus = true ↔ s.phase = .running ∨ s.phase = .aborting := by
  simp [State.onTheBus]

/-- The end of a byte write: nothing (no such write), the byte stored, or an abort (42_frame_transform.md R144,
60_exceptions.md R185). -/
theorem completeStep_cases (k : Nat) (reply : BusReply) (s : State) :
    (completeStep k reply s = s ∧ (s.onTheBus = false ∨ s.inflight[k]? = none)) ∨
    (∃ c, s.onTheBus = true ∧ s.inflight[k]? = some c ∧ reply = .ok ∧ completeStep k reply s =
      { s with inflight := s.inflight.eraseIdx k, mem := writeByte s.mem c.1 c.2 }) ∨
    (∃ c, s.onTheBus = true ∧ s.inflight[k]? = some c ∧ reply = .error ∧ completeStep k reply s =
      { s with inflight := s.inflight.eraseIdx k, phase := .aborting }) := by
  unfold completeStep
  cases hb : s.onTheBus with
  | false => exact .inl ⟨rfl, .inl rfl⟩
  | true =>
    cases h : s.inflight[k]? with
    | none => exact .inl ⟨rfl, .inr rfl⟩
    | some c =>
      cases reply with
      | ok => exact .inr (.inl ⟨c, rfl, rfl, rfl, rfl⟩)
      | error => exact .inr (.inr ⟨c, rfl, rfl, rfl, rfl⟩)

theorem nextPixel_eq_none (s : State) : s.nextPixel = none ↔ ∀ p, s.frame.hasPixel p = true → p ∈ s.donePx := by
  simp [State.nextPixel, List.find?_eq_none, FrameLatch.mem_pixels]

theorem nextPixel_eq_some (s : State) (p : Pixel) (h : s.nextPixel = some p) :
    s.frame.hasPixel p = true ∧ p ∉ s.donePx := by
  have h1 := List.find?_some h
  have h2 := List.mem_of_find?_eq_some h
  exact ⟨(s.frame.mem_pixels p).1 h2, by simpa using h1⟩

/-- The end of a frame: nothing, completion, or the end of an abort (42_frame_transform.md R130, 60_exceptions.md R185). -/
theorem finishStep_cases (s : State) :
    finishStep s = s ∨
    (s.inflight = [] ∧ s.phase = .running ∧ s.nextPixel = none ∧ finishStep s = completeFrame s) ∨
    (s.inflight = [] ∧ s.phase = .aborting ∧ finishStep s = abortFrame s) := by
  unfold finishStep
  by_cases hi : s.inflight = []
  · rw [if_pos hi]
    cases hp : s.phase with
    | idle => exact .inl rfl
    | fenced => exact .inl rfl
    | aborting => exact .inr (.inr ⟨hi, rfl, rfl⟩)
    | running =>
      by_cases hn : s.nextPixel = none
      · exact .inr (.inl ⟨hi, rfl, hn, by simp [hn]⟩)
      · exact .inl (by simp [hn])
  · exact .inl (if_neg hi)

/-- What the end of an abort leaves (R185). -/
theorem abortFrame_eq (s : State) :
    abortFrame s = { s with
      phase := .idle, errCode := .busError, intErr := true
      mem := scramble s.mem s.freeCount s.frame.dstBytes
      freeCount := s.freeCount + s.frame.dstBytes.length } := rfl

/-- What the reset input leaves in frame memory (70_reset_and_hazards.md R199). -/
theorem resetStep_mem (s : State) :
    (resetStep s).mem = if s.busy then scramble s.mem s.freeCount s.frame.dstBytes else s.mem := by
  cases hb : s.busy <;> simp [resetStep, hb, scrambleDst]

/-- The reset input is `State.resetWith` but for memory, the inputs and what the host was told (R197). -/
theorem resetStep_eq (s : State) :
    resetStep s = { State.resetWith s.jetRom with
      mem := (resetStep s).mem, freeCount := (resetStep s).freeCount, inputs := s.inputs, readData := s.readData,
      hostByte := s.hostByte } := rfl

/-- A host load changes nothing but what the host is told and the count of free bytes (20_memory.md R73). -/
theorem hostLoadStep_cases (a : Word) (s : State) :
    (hostLoadStep a s = { s with hostByte := Config.freeByte s.freeCount, freeCount := s.freeCount + 1 }) ∨
    (hostLoadStep a s = { s with hostByte := readByte s.mem a.toNat }) := by
  unfold hostLoadStep
  split
  · exact .inl rfl
  · exact .inr rfl

/-- A register transaction of 32 bits runs the decoded instruction; any other size is refused (20_memory.md R64). -/
theorem hostTransaction_cases (bits : Nat) (w : TWord) (s : State) :
    (bits = 32 ∧ hostTransaction bits w s = exec (decode w) s) ∨
    (bits ≠ 32 ∧ hostTransaction bits w s = .refused .registerAccessNot32Bits) := by
  by_cases h : bits = 32
  · exact .inl ⟨h, by simp [hostTransaction, Config.registerAccessBits, h]⟩
  · exact .inr ⟨h, by simp [hostTransaction, Config.registerAccessBits, h]⟩

/-- One step: the next event, else the block's own turn, else nothing. -/
theorem step_cases (s : State) :
    (∃ e rest, s.inputs = e :: rest ∧ step s = deliver e { s with inputs := rest }) ∨
    (∃ e, s.inputs = [] ∧ s.ownTurn = some e ∧ step s = deliver e s) ∨
    (s.inputs = [] ∧ s.ownTurn = none ∧ step s = .next s) := by
  unfold step stepOnce
  cases hi : s.inputs with
  | cons e rest => exact .inl ⟨e, rest, rfl, rfl⟩
  | nil =>
    cases ho : s.ownTurn with
    | some e => exact .inr (.inl ⟨e, rfl, rfl, rfl⟩)
    | none => exact .inr (.inr ⟨rfl, rfl, rfl⟩)

/-- A frame that passes its checks on a context that is not empty is as the engine needs it (42_frame_transform.md R125). -/
theorem latched_ok (s : State) (h : checkFrame s = none) (hw : 0 < s.ctxGeom.width.toNat)
    (hh : 0 < s.ctxGeom.height.toNat) : s.latched.Ok := by
  obtain ⟨-, -, -, -, h5, h6, h7⟩ := checkFrame_eq_none s h
  refine ⟨hw, hh, h5.1, h5.2, h6.1, h6.2, ?_⟩
  simp only [rangesMeet, decide_eq_false_iff_not, Int.not_lt] at h7
  have h1 : (s.srcBase.toNat : Int) < s.srcEnd := base_lt_planeEnd hw hh (by cases s.ctxIn <;> decide)
  have h2 : (s.dstBase.toNat : Int) < s.dstEnd := base_lt_planeEnd hw hh (by cases s.ctxOut <;> decide)
  show s.srcEnd ≤ _ ∨ s.dstEnd ≤ _
  simp only [State.latched]
  omega

/-- The writes of a pixel of the frame go to destination pixel bytes (R144, R145). -/
theorem pixelCells_dst (s : State) (p : Pixel) (picks : List Nat) (hp : s.frame.hasPixel p = true) (c : Host.Cell)
    (h : c ∈ s.pixelCells p picks) : c.1 ∈ s.frame.dstBytes := by
  obtain ⟨j, hj, rfl⟩ := (mem_memWriteCells _ _ _).1 h
  exact (s.frame.mem_dstBytes _).2 ⟨p, hp, j, by rwa [length_pack] at hj, rfl⟩

end Sys2Proof.Machine
end

