-- ==== Sys2Proof/Laws/PerInstr.lean ====
section
/-! SUPPORT. Statements made for each instruction by itself. `TableRow`: the word the encoder writes matches the
instruction's own row of spec/opcode_table.json, whose mask and match are copied here from the table. -/

namespace Sys2Proof.Laws

/-- `MASK` and `MATCH` of each row of spec/opcode_table.json. -/
def tableRow : Instr → TWord × TWord
  | .cmdNop => (0x1FFFFFFFFFFF, 0x100400000000)
  | .cmdNegotiate => (0x1FFFFFFFFFFF, 0x100400000001)
  | .cmdProcess => (0x1FFFFFFFFFFF, 0x100400000002)
  | .cmdClearError => (0x1FFFFFFFFFFF, 0x100400000003)
  | .cmdIllegal04 _ => (0x1FFFFFFFFFFC, 0x100400000004)
  | .cmdIllegal08 _ => (0x1FFFFFFFFFF8, 0x100400000008)
  | .cmdIllegal10 _ => (0x1FFFFFFFFFF0, 0x100400000010)
  | .cmdIllegal20 _ => (0x1FFFFFFFFFE0, 0x100400000020)
  | .cmdIllegal40 _ => (0x1FFFFFFFFFC0, 0x100400000040)
  | .cmdIllegal80 _ => (0x1FFFFFFFFF80, 0x100400000080)
  | .cmdIllegalHigh _ => (0x1FFF00000000, 0x100400000000)
  | .rdId _ => (0x1FFF00000000, 0x000000000000)
  | .rdCmd _ => (0x1FFF00000000, 0x000400000000)
  | .rdStatus _ => (0x1FFF00000000, 0x000800000000)
  | .rdIntStatus _ => (0x1FFF00000000, 0x000C00000000)
  | .rdIntEnable _ => (0x1FFF00000000, 0x001000000000)
  | .rdPreset _ => (0x1FFF00000000, 0x001400000000)
  | .rdNearCut _ => (0x1FFF00000000, 0x001800000000)
  | .rdFarCut _ => (0x1FFF00000000, 0x001C00000000)
  | .rdFmt _ => (0x1FFF00000000, 0x002000000000)
  | .rdGeom _ => (0x1FFF00000000, 0x002400000000)
  | .rdCtxFmt _ => (0x1FFF00000000, 0x002800000000)
  | .rdCtxGeom _ => (0x1FFF00000000, 0x002C00000000)
  | .rdSrcBase _ => (0x1FFF00000000, 0x003000000000)
  | .rdSrcStride _ => (0x1FFF00000000, 0x003400000000)
  | .rdSrcGeom _ => (0x1FFF00000000, 0x003800000000)
  | .rdSrcFmt _ => (0x1FFF00000000, 0x003C00000000)
  | .rdDstBase _ => (0x1FFF00000000, 0x004000000000)
  | .rdDstStride _ => (0x1FFF00000000, 0x004400000000)
  | .rdDstGeom _ => (0x1FFF00000000, 0x004800000000)
  | .rdDstFmt _ => (0x1FFF00000000, 0x004C00000000)
  | .wrId _ => (0x1FFF00000000, 0x100000000000)
  | .wrStatus _ => (0x1FFF00000000, 0x100800000000)
  | .wrIntStatus _ => (0x1FFF00000000, 0x100C00000000)
  | .wrIntEnable _ => (0x1FFF00000000, 0x101000000000)
  | .wrPreset _ => (0x1FFF00000000, 0x101400000000)
  | .wrNearCut _ => (0x1FFF00000000, 0x101800000000)
  | .wrFarCut _ => (0x1FFF00000000, 0x101C00000000)
  | .wrFmt _ => (0x1FFF00000000, 0x102000000000)
  | .wrGeom _ => (0x1FFF00000000, 0x102400000000)
  | .wrCtxFmt _ => (0x1FFF00000000, 0x102800000000)
  | .wrCtxGeom _ => (0x1FFF00000000, 0x102C00000000)
  | .wrSrcBase _ => (0x1FFF00000000, 0x103000000000)
  | .wrSrcStride _ => (0x1FFF00000000, 0x103400000000)
  | .wrSrcGeom _ => (0x1FFF00000000, 0x103800000000)
  | .wrSrcFmt _ => (0x1FFF00000000, 0x103C00000000)
  | .wrDstBase _ => (0x1FFF00000000, 0x104000000000)
  | .wrDstStride _ => (0x1FFF00000000, 0x104400000000)
  | .wrDstGeom _ => (0x1FFF00000000, 0x104800000000)
  | .wrDstFmt _ => (0x1FFF00000000, 0x104C00000000)
  | .unmapped050 _ _ _ => (0x0FF300000000, 0x005000000000)
  | .unmapped060 _ _ _ => (0x0FE300000000, 0x006000000000)
  | .unmapped080 _ _ _ => (0x0F8300000000, 0x008000000000)
  | .unmapped100 _ _ _ => (0x0F0300000000, 0x010000000000)
  | .unmapped200 _ _ _ => (0x0E0300000000, 0x020000000000)
  | .unmapped400 _ _ _ => (0x0C0300000000, 0x040000000000)
  | .unmapped800 _ _ _ => (0x080300000000, 0x080000000000)
  | .misaligned01 _ _ _ => (0x000300000000, 0x000100000000)
  | .misaligned10 _ _ _ => (0x000300000000, 0x000200000000)
  | .misaligned11 _ _ _ => (0x000300000000, 0x000300000000)

/-- The word of a well-formed instruction has the bits its row of the opcode table fixes. -/
def TableRow.Statement (i : Instr) : Prop := i.wellFormed = true → encode i &&& (tableRow i).1 = (tableRow i).2

/-- Masking a word masks its fields. -/
theorem ofFields_and (we we' : Bool) (off off' : Offset) (d d' : Word) :
    TWord.ofFields we off d &&& TWord.ofFields we' off' d' = TWord.ofFields (we && we') (off &&& off') (d &&& d') := by
  apply BitVec.eq_of_getLsbD_eq
  intro i hi
  simp only [TWord.ofFields, BitVec.getLsbD_and, BitVec.getLsbD_cast, BitVec.getLsbD_append]
  split
  · rfl
  · split
    · rfl
    · simp only [BitVec.getLsbD_ofBool]
      cases we <;> cases we' <;> simp

/-- A row that fixes `WE` and `OFF`. -/
theorem row_offset (we : Bool) (off : Offset) (d : Word) :
    TWord.ofFields we off d &&& 0x1FFF00000000#45 = TWord.ofFields we off 0 := by
  have h : (0x1FFF00000000#45 : TWord) = TWord.ofFields true 0xFFF 0 := by decide
  have ho : off &&& (0xFFF : Offset) = off := BitVec.and_allOnes
  rw [h, ofFields_and, ho]
  simp

/-- A row that fixes some bits of `OFF`, those of `m`. -/
theorem row_part (we : Bool) (off m : Offset) (d : Word) :
    TWord.ofFields we off d &&& TWord.ofFields false m 0 = TWord.ofFields false (off &&& m) 0 := by
  rw [ofFields_and]
  simp

theorem TableRow.cmdNop : TableRow.Statement .cmdNop := fun _ => by decide

theorem TableRow.cmdNegotiate : TableRow.Statement .cmdNegotiate := fun _ => by decide

theorem TableRow.cmdProcess : TableRow.Statement .cmdProcess := fun _ => by decide

theorem TableRow.cmdClearError : TableRow.Statement .cmdClearError := fun _ => by decide

theorem TableRow.cmdIllegal04 (lo : BitVec 2) : TableRow.Statement (.cmdIllegal04 lo) := fun _ => by
  revert lo; decide

theorem TableRow.cmdIllegal08 (lo : BitVec 3) : TableRow.Statement (.cmdIllegal08 lo) := fun _ => by
  revert lo; decide

theorem TableRow.cmdIllegal10 (lo : BitVec 4) : TableRow.Statement (.cmdIllegal10 lo) := fun _ => by
  revert lo; decide

theorem TableRow.cmdIllegal20 (lo : BitVec 5) : TableRow.Statement (.cmdIllegal20 lo) := fun _ => by
  revert lo; decide

theorem TableRow.cmdIllegal40 (lo : BitVec 6) : TableRow.Statement (.cmdIllegal40 lo) := fun _ => by
  revert lo; decide

theorem TableRow.cmdIllegal80 (lo : BitVec 7) : TableRow.Statement (.cmdIllegal80 lo) := fun _ => by
  revert lo; decide

theorem TableRow.cmdIllegalHigh (d : Word) : TableRow.Statement (.cmdIllegalHigh d) := fun _ =>
  (row_offset _ _ d).trans rfl

theorem TableRow.rdId (d : Word) : TableRow.Statement (.rdId d) := fun _ =>
  (row_offset _ _ d).trans rfl

theorem TableRow.rdCmd (d : Word) : TableRow.Statement (.rdCmd d) := fun _ =>
  (row_offset _ _ d).trans rfl

theorem TableRow.rdStatus (d : Word) : TableRow.Statement (.rdStatus d) := fun _ =>
  (row_offset _ _ d).trans rfl

theorem TableRow.rdIntStatus (d : Word) : TableRow.Statement (.rdIntStatus d) := fun _ =>
  (row_offset _ _ d).trans rfl

theorem TableRow.rdIntEnable (d : Word) : TableRow.Statement (.rdIntEnable d) := fun _ =>
  (row_offset _ _ d).trans rfl

theorem TableRow.rdPreset (d : Word) : TableRow.Statement (.rdPreset d) := fun _ =>
  (row_offset _ _ d).trans rfl

theorem TableRow.rdNearCut (d : Word) : TableRow.Statement (.rdNearCut d) := fun _ =>
  (row_offset _ _ d).trans rfl

theorem TableRow.rdFarCut (d : Word) : TableRow.Statement (.rdFarCut d) := fun _ =>
  (row_offset _ _ d).trans rfl

theorem TableRow.rdFmt (d : Word) : TableRow.Statement (.rdFmt d) := fun _ =>
  (row_offset _ _ d).trans rfl

theorem TableRow.rdGeom (d : Word) : TableRow.Statement (.rdGeom d) := fun _ =>
  (row_offset _ _ d).trans rfl

theorem TableRow.rdCtxFmt (d : Word) : TableRow.Statement (.rdCtxFmt d) := fun _ =>
  (row_offset _ _ d).trans rfl

theorem TableRow.rdCtxGeom (d : Word) : TableRow.Statement (.rdCtxGeom d) := fun _ =>
  (row_offset _ _ d).trans rfl

theorem TableRow.rdSrcBase (d : Word) : TableRow.Statement (.rdSrcBase d) := fun _ =>
  (row_offset _ _ d).trans rfl

theorem TableRow.rdSrcStride (d : Word) : TableRow.Statement (.rdSrcStride d) := fun _ =>
  (row_offset _ _ d).trans rfl

theorem TableRow.rdSrcGeom (d : Word) : TableRow.Statement (.rdSrcGeom d) := fun _ =>
  (row_offset _ _ d).trans rfl

theorem TableRow.rdSrcFmt (d : Word) : TableRow.Statement (.rdSrcFmt d) := fun _ =>
  (row_offset _ _ d).trans rfl

theorem TableRow.rdDstBase (d : Word) : TableRow.Statement (.rdDstBase d) := fun _ =>
  (row_offset _ _ d).trans rfl

theorem TableRow.rdDstStride (d : Word) : TableRow.Statement (.rdDstStride d) := fun _ =>
  (row_offset _ _ d).trans rfl

theorem TableRow.rdDstGeom (d : Word) : TableRow.Statement (.rdDstGeom d) := fun _ =>
  (row_offset _ _ d).trans rfl

theorem TableRow.rdDstFmt (d : Word) : TableRow.Statement (.rdDstFmt d) := fun _ =>
  (row_offset _ _ d).trans rfl

theorem TableRow.wrId (d : Word) : TableRow.Statement (.wrId d) := fun _ =>
  (row_offset _ _ d).trans rfl

theorem TableRow.wrStatus (d : Word) : TableRow.Statement (.wrStatus d) := fun _ =>
  (row_offset _ _ d).trans rfl

theorem TableRow.wrIntStatus (d : Word) : TableRow.Statement (.wrIntStatus d) := fun _ =>
  (row_offset _ _ d).trans rfl

theorem TableRow.wrIntEnable (d : Word) : TableRow.Statement (.wrIntEnable d) := fun _ =>
  (row_offset _ _ d).trans rfl

theorem TableRow.wrPreset (d : Word) : TableRow.Statement (.wrPreset d) := fun _ =>
  (row_offset _ _ d).trans rfl

theorem TableRow.wrNearCut (d : Word) : TableRow.Statement (.wrNearCut d) := fun _ =>
  (row_offset _ _ d).trans rfl

theorem TableRow.wrFarCut (d : Word) : TableRow.Statement (.wrFarCut d) := fun _ =>
  (row_offset _ _ d).trans rfl

theorem TableRow.wrFmt (d : Word) : TableRow.Statement (.wrFmt d) := fun _ =>
  (row_offset _ _ d).trans rfl

theorem TableRow.wrGeom (d : Word) : TableRow.Statement (.wrGeom d) := fun _ =>
  (row_offset _ _ d).trans rfl

theorem TableRow.wrCtxFmt (d : Word) : TableRow.Statement (.wrCtxFmt d) := fun _ =>
  (row_offset _ _ d).trans rfl

theorem TableRow.wrCtxGeom (d : Word) : TableRow.Statement (.wrCtxGeom d) := fun _ =>
  (row_offset _ _ d).trans rfl

theorem TableRow.wrSrcBase (d : Word) : TableRow.Statement (.wrSrcBase d) := fun _ =>
  (row_offset _ _ d).trans rfl

theorem TableRow.wrSrcStride (d : Word) : TableRow.Statement (.wrSrcStride d) := fun _ =>
  (row_offset _ _ d).trans rfl

theorem TableRow.wrSrcGeom (d : Word) : TableRow.Statement (.wrSrcGeom d) := fun _ =>
  (row_offset _ _ d).trans rfl

theorem TableRow.wrSrcFmt (d : Word) : TableRow.Statement (.wrSrcFmt d) := fun _ =>
  (row_offset _ _ d).trans rfl

theorem TableRow.wrDstBase (d : Word) : TableRow.Statement (.wrDstBase d) := fun _ =>
  (row_offset _ _ d).trans rfl

theorem TableRow.wrDstStride (d : Word) : TableRow.Statement (.wrDstStride d) := fun _ =>
  (row_offset _ _ d).trans rfl

theorem TableRow.wrDstGeom (d : Word) : TableRow.Statement (.wrDstGeom d) := fun _ =>
  (row_offset _ _ d).trans rfl

theorem TableRow.wrDstFmt (d : Word) : TableRow.Statement (.wrDstFmt d) := fun _ =>
  (row_offset _ _ d).trans rfl

theorem TableRow.unmapped050 (we : Bool) (sel : BitVec 2) (d : Word) : TableRow.Statement (.unmapped050 we sel d) := fun _ => by
  have h : ∀ sel : BitVec 2, (0b00000101#8 ++ sel ++ 0#2 : Offset) &&& 0xFF3#12 = 0x050#12 := by decide +kernel
  exact (row_part we _ 0xFF3#12 d).trans (by rw [h sel]; rfl)

theorem TableRow.unmapped060 (we : Bool) (sel : BitVec 3) (d : Word) : TableRow.Statement (.unmapped060 we sel d) := fun _ => by
  have h : ∀ sel : BitVec 3, (0b0000011#7 ++ sel ++ 0#2 : Offset) &&& 0xFE3#12 = 0x060#12 := by decide +kernel
  exact (row_part we _ 0xFE3#12 d).trans (by rw [h sel]; rfl)

theorem TableRow.unmapped080 (we : Bool) (sel : BitVec 5) (d : Word) : TableRow.Statement (.unmapped080 we sel d) := fun _ => by
  have h : ∀ sel : BitVec 5, (0b00001#5 ++ sel ++ 0#2 : Offset) &&& 0xF83#12 = 0x080#12 := by decide +kernel
  exact (row_part we _ 0xF83#12 d).trans (by rw [h sel]; rfl)

theorem TableRow.unmapped100 (we : Bool) (sel : BitVec 6) (d : Word) : TableRow.Statement (.unmapped100 we sel d) := fun _ => by
  have h : ∀ sel : BitVec 6, (0b0001#4 ++ sel ++ 0#2 : Offset) &&& 0xF03#12 = 0x100#12 := by decide +kernel
  exact (row_part we _ 0xF03#12 d).trans (by rw [h sel]; rfl)

theorem TableRow.unmapped200 (we : Bool) (sel : BitVec 7) (d : Word) : TableRow.Statement (.unmapped200 we sel d) := fun _ => by
  have h : ∀ sel : BitVec 7, (0b001#3 ++ sel ++ 0#2 : Offset) &&& 0xE03#12 = 0x200#12 := by decide +kernel
  exact (row_part we _ 0xE03#12 d).trans (by rw [h sel]; rfl)

theorem TableRow.unmapped400 (we : Bool) (sel : BitVec 8) (d : Word) : TableRow.Statement (.unmapped400 we sel d) := fun _ => by
  have h : ∀ sel : BitVec 8, (0b01#2 ++ sel ++ 0#2 : Offset) &&& 0xC03#12 = 0x400#12 := by decide +kernel
  exact (row_part we _ 0xC03#12 d).trans (by rw [h sel]; rfl)

theorem TableRow.unmapped800 (we : Bool) (sel : BitVec 9) (d : Word) : TableRow.Statement (.unmapped800 we sel d) := fun _ => by
  have h : ∀ sel : BitVec 9, (0b1#1 ++ sel ++ 0#2 : Offset) &&& 0x803#12 = 0x800#12 := by decide +kernel
  exact (row_part we _ 0x803#12 d).trans (by rw [h sel]; rfl)

theorem TableRow.misaligned01 (we : Bool) (sel : BitVec 10) (d : Word) : TableRow.Statement (.misaligned01 we sel d) := fun _ => by
  have h : ∀ sel : BitVec 10, (sel ++ 1#2 : Offset) &&& 0x003#12 = 0x001#12 := by decide +kernel
  exact (row_part we _ 0x003#12 d).trans (by rw [h sel]; rfl)

theorem TableRow.misaligned10 (we : Bool) (sel : BitVec 10) (d : Word) : TableRow.Statement (.misaligned10 we sel d) := fun _ => by
  have h : ∀ sel : BitVec 10, (sel ++ 2#2 : Offset) &&& 0x003#12 = 0x002#12 := by decide +kernel
  exact (row_part we _ 0x003#12 d).trans (by rw [h sel]; rfl)

theorem TableRow.misaligned11 (we : Bool) (sel : BitVec 10) (d : Word) : TableRow.Statement (.misaligned11 we sel d) := fun _ => by
  have h : ∀ sel : BitVec 10, (sel ++ 3#2 : Offset) &&& 0x003#12 = 0x003#12 := by decide +kernel
  exact (row_part we _ 0x003#12 d).trans (by rw [h sel]; rfl)

end Sys2Proof.Laws
end

