-- ==== Sys2Proof/Laws/State.lean ====
section
/-! SUPPORT. For each named update of the state, what every field is afterwards: one lemma per field, so that no proof
unfolds a record update. -/

namespace Sys2Proof.Machine

/-! Recording an error (60_exceptions.md R181). -/

@[simp] theorem recordError_phase (c : ErrorCode) (s : State) : (recordError c s).phase = s.phase := rfl
@[simp] theorem recordError_buildBusy (c : ErrorCode) (s : State) : (recordError c s).buildBusy = s.buildBusy := rfl
@[simp] theorem recordError_negValid (c : ErrorCode) (s : State) : (recordError c s).negValid = s.negValid := rfl
@[simp] theorem recordError_ovr (c : ErrorCode) (s : State) : (recordError c s).ovr = s.ovr := rfl
@[simp] theorem recordError_errCode (c : ErrorCode) (s : State) : (recordError c s).errCode = c := rfl
@[simp] theorem recordError_intDone (c : ErrorCode) (s : State) : (recordError c s).intDone = s.intDone := rfl
@[simp] theorem recordError_intErr (c : ErrorCode) (s : State) : (recordError c s).intErr = true := rfl
@[simp] theorem recordError_doneEn (c : ErrorCode) (s : State) : (recordError c s).doneEn = s.doneEn := rfl
@[simp] theorem recordError_errEn (c : ErrorCode) (s : State) : (recordError c s).errEn = s.errEn := rfl
@[simp] theorem recordError_preset (c : ErrorCode) (s : State) : (recordError c s).preset = s.preset := rfl
@[simp] theorem recordError_nearCut (c : ErrorCode) (s : State) : (recordError c s).nearCut = s.nearCut := rfl
@[simp] theorem recordError_farCut (c : ErrorCode) (s : State) : (recordError c s).farCut = s.farCut := rfl
@[simp] theorem recordError_fmt (c : ErrorCode) (s : State) : (recordError c s).fmt = s.fmt := rfl
@[simp] theorem recordError_geom (c : ErrorCode) (s : State) : (recordError c s).geom = s.geom := rfl
@[simp] theorem recordError_ctxIn (c : ErrorCode) (s : State) : (recordError c s).ctxIn = s.ctxIn := rfl
@[simp] theorem recordError_ctxOut (c : ErrorCode) (s : State) : (recordError c s).ctxOut = s.ctxOut := rfl
@[simp] theorem recordError_ctxGeom (c : ErrorCode) (s : State) : (recordError c s).ctxGeom = s.ctxGeom := rfl
@[simp] theorem recordError_srcBase (c : ErrorCode) (s : State) : (recordError c s).srcBase = s.srcBase := rfl
@[simp] theorem recordError_srcStride (c : ErrorCode) (s : State) : (recordError c s).srcStride = s.srcStride := rfl
@[simp] theorem recordError_srcGeom (c : ErrorCode) (s : State) : (recordError c s).srcGeom = s.srcGeom := rfl
@[simp] theorem recordError_srcFmt (c : ErrorCode) (s : State) : (recordError c s).srcFmt = s.srcFmt := rfl
@[simp] theorem recordError_dstBase (c : ErrorCode) (s : State) : (recordError c s).dstBase = s.dstBase := rfl
@[simp] theorem recordError_dstStride (c : ErrorCode) (s : State) : (recordError c s).dstStride = s.dstStride := rfl
@[simp] theorem recordError_dstGeom (c : ErrorCode) (s : State) : (recordError c s).dstGeom = s.dstGeom := rfl
@[simp] theorem recordError_dstFmt (c : ErrorCode) (s : State) : (recordError c s).dstFmt = s.dstFmt := rfl
@[simp] theorem recordError_lutActive (c : ErrorCode) (s : State) : (recordError c s).lutActive = s.lutActive := rfl
@[simp] theorem recordError_lutShadow (c : ErrorCode) (s : State) : (recordError c s).lutShadow = s.lutShadow := rfl
@[simp] theorem recordError_jetRom (c : ErrorCode) (s : State) : (recordError c s).jetRom = s.jetRom := rfl
@[simp] theorem recordError_buildPreset (c : ErrorCode) (s : State) :
    (recordError c s).buildPreset = s.buildPreset := rfl
@[simp] theorem recordError_frame (c : ErrorCode) (s : State) : (recordError c s).frame = s.frame := rfl
@[simp] theorem recordError_donePx (c : ErrorCode) (s : State) : (recordError c s).donePx = s.donePx := rfl
@[simp] theorem recordError_inflight (c : ErrorCode) (s : State) : (recordError c s).inflight = s.inflight := rfl
@[simp] theorem recordError_mem (c : ErrorCode) (s : State) : (recordError c s).mem = s.mem := rfl
@[simp] theorem recordError_inputs (c : ErrorCode) (s : State) : (recordError c s).inputs = s.inputs := rfl
@[simp] theorem recordError_readData (c : ErrorCode) (s : State) : (recordError c s).readData = s.readData := rfl
@[simp] theorem recordError_hostByte (c : ErrorCode) (s : State) : (recordError c s).hostByte = s.hostByte := rfl
@[simp] theorem recordError_raced (c : ErrorCode) (s : State) : (recordError c s).raced = s.raced := rfl
@[simp] theorem recordError_freeCount (c : ErrorCode) (s : State) : (recordError c s).freeCount = s.freeCount := rfl

/-! CLEAR_ERROR (43_control.md R147). -/

@[simp] theorem clearError_phase (s : State) : (clearError s).phase = s.phase := rfl
@[simp] theorem clearError_buildBusy (s : State) : (clearError s).buildBusy = s.buildBusy := rfl
@[simp] theorem clearError_negValid (s : State) : (clearError s).negValid = s.negValid := rfl
@[simp] theorem clearError_ovr (s : State) : (clearError s).ovr = false := rfl
@[simp] theorem clearError_errCode (s : State) : (clearError s).errCode = .none := rfl
@[simp] theorem clearError_intDone (s : State) : (clearError s).intDone = s.intDone := rfl
@[simp] theorem clearError_intErr (s : State) : (clearError s).intErr = s.intErr := rfl
@[simp] theorem clearError_doneEn (s : State) : (clearError s).doneEn = s.doneEn := rfl
@[simp] theorem clearError_errEn (s : State) : (clearError s).errEn = s.errEn := rfl
@[simp] theorem clearError_preset (s : State) : (clearError s).preset = s.preset := rfl
@[simp] theorem clearError_nearCut (s : State) : (clearError s).nearCut = s.nearCut := rfl
@[simp] theorem clearError_farCut (s : State) : (clearError s).farCut = s.farCut := rfl
@[simp] theorem clearError_fmt (s : State) : (clearError s).fmt = s.fmt := rfl
@[simp] theorem clearError_geom (s : State) : (clearError s).geom = s.geom := rfl
@[simp] theorem clearError_ctxIn (s : State) : (clearError s).ctxIn = s.ctxIn := rfl
@[simp] theorem clearError_ctxOut (s : State) : (clearError s).ctxOut = s.ctxOut := rfl
@[simp] theorem clearError_ctxGeom (s : State) : (clearError s).ctxGeom = s.ctxGeom := rfl
@[simp] theorem clearError_srcBase (s : State) : (clearError s).srcBase = s.srcBase := rfl
@[simp] theorem clearError_srcStride (s : State) : (clearError s).srcStride = s.srcStride := rfl
@[simp] theorem clearError_srcGeom (s : State) : (clearError s).srcGeom = s.srcGeom := rfl
@[simp] theorem clearError_srcFmt (s : State) : (clearError s).srcFmt = s.srcFmt := rfl
@[simp] theorem clearError_dstBase (s : State) : (clearError s).dstBase = s.dstBase := rfl
@[simp] theorem clearError_dstStride (s : State) : (clearError s).dstStride = s.dstStride := rfl
@[simp] theorem clearError_dstGeom (s : State) : (clearError s).dstGeom = s.dstGeom := rfl
@[simp] theorem clearError_dstFmt (s : State) : (clearError s).dstFmt = s.dstFmt := rfl
@[simp] theorem clearError_lutActive (s : State) : (clearError s).lutActive = s.lutActive := rfl
@[simp] theorem clearError_lutShadow (s : State) : (clearError s).lutShadow = s.lutShadow := rfl
@[simp] theorem clearError_jetRom (s : State) : (clearError s).jetRom = s.jetRom := rfl
@[simp] theorem clearError_buildPreset (s : State) : (clearError s).buildPreset = s.buildPreset := rfl
@[simp] theorem clearError_frame (s : State) : (clearError s).frame = s.frame := rfl
@[simp] theorem clearError_donePx (s : State) : (clearError s).donePx = s.donePx := rfl
@[simp] theorem clearError_inflight (s : State) : (clearError s).inflight = s.inflight := rfl
@[simp] theorem clearError_mem (s : State) : (clearError s).mem = s.mem := rfl
@[simp] theorem clearError_inputs (s : State) : (clearError s).inputs = s.inputs := rfl
@[simp] theorem clearError_readData (s : State) : (clearError s).readData = s.readData := rfl
@[simp] theorem clearError_hostByte (s : State) : (clearError s).hostByte = s.hostByte := rfl
@[simp] theorem clearError_raced (s : State) : (clearError s).raced = s.raced := rfl
@[simp] theorem clearError_freeCount (s : State) : (clearError s).freeCount = s.freeCount := rfl

/-! Write 1 to clear (43_control.md R150). -/

@[simp] theorem clearInterrupts_phase (d e : Bool) (s : State) : (clearInterrupts d e s).phase = s.phase := rfl
@[simp] theorem clearInterrupts_buildBusy (d e : Bool) (s : State) :
    (clearInterrupts d e s).buildBusy = s.buildBusy := rfl
@[simp] theorem clearInterrupts_negValid (d e : Bool) (s : State) :
    (clearInterrupts d e s).negValid = s.negValid := rfl
@[simp] theorem clearInterrupts_ovr (d e : Bool) (s : State) : (clearInterrupts d e s).ovr = s.ovr := rfl
@[simp] theorem clearInterrupts_errCode (d e : Bool) (s : State) : (clearInterrupts d e s).errCode = s.errCode := rfl
@[simp] theorem clearInterrupts_intDone (d e : Bool) (s : State) :
    (clearInterrupts d e s).intDone = (s.intDone && !d) := rfl
@[simp] theorem clearInterrupts_intErr (d e : Bool) (s : State) :
    (clearInterrupts d e s).intErr = (s.intErr && !e) := rfl
@[simp] theorem clearInterrupts_doneEn (d e : Bool) (s : State) : (clearInterrupts d e s).doneEn = s.doneEn := rfl
@[simp] theorem clearInterrupts_errEn (d e : Bool) (s : State) : (clearInterrupts d e s).errEn = s.errEn := rfl
@[simp] theorem clearInterrupts_preset (d e : Bool) (s : State) : (clearInterrupts d e s).preset = s.preset := rfl
@[simp] theorem clearInterrupts_nearCut (d e : Bool) (s : State) : (clearInterrupts d e s).nearCut = s.nearCut := rfl
@[simp] theorem clearInterrupts_farCut (d e : Bool) (s : State) : (clearInterrupts d e s).farCut = s.farCut := rfl
@[simp] theorem clearInterrupts_fmt (d e : Bool) (s : State) : (clearInterrupts d e s).fmt = s.fmt := rfl
@[simp] theorem clearInterrupts_geom (d e : Bool) (s : State) : (clearInterrupts d e s).geom = s.geom := rfl
@[simp] theorem clearInterrupts_ctxIn (d e : Bool) (s : State) : (clearInterrupts d e s).ctxIn = s.ctxIn := rfl
@[simp] theorem clearInterrupts_ctxOut (d e : Bool) (s : State) : (clearInterrupts d e s).ctxOut = s.ctxOut := rfl
@[simp] theorem clearInterrupts_ctxGeom (d e : Bool) (s : State) : (clearInterrupts d e s).ctxGeom = s.ctxGeom := rfl
@[simp] theorem clearInterrupts_srcBase (d e : Bool) (s : State) : (clearInterrupts d e s).srcBase = s.srcBase := rfl
@[simp] theorem clearInterrupts_srcStride (d e : Bool) (s : State) :
    (clearInterrupts d e s).srcStride = s.srcStride := rfl
@[simp] theorem clearInterrupts_srcGeom (d e : Bool) (s : State) : (clearInterrupts d e s).srcGeom = s.srcGeom := rfl
@[simp] theorem clearInterrupts_srcFmt (d e : Bool) (s : State) : (clearInterrupts d e s).srcFmt = s.srcFmt := rfl
@[simp] theorem clearInterrupts_dstBase (d e : Bool) (s : State) : (clearInterrupts d e s).dstBase = s.dstBase := rfl
@[simp] theorem clearInterrupts_dstStride (d e : Bool) (s : State) :
    (clearInterrupts d e s).dstStride = s.dstStride := rfl
@[simp] theorem clearInterrupts_dstGeom (d e : Bool) (s : State) : (clearInterrupts d e s).dstGeom = s.dstGeom := rfl
@[simp] theorem clearInterrupts_dstFmt (d e : Bool) (s : State) : (clearInterrupts d e s).dstFmt = s.dstFmt := rfl
@[simp] theorem clearInterrupts_lutActive (d e : Bool) (s : State) :
    (clearInterrupts d e s).lutActive = s.lutActive := rfl
@[simp] theorem clearInterrupts_lutShadow (d e : Bool) (s : State) :
    (clearInterrupts d e s).lutShadow = s.lutShadow := rfl
@[simp] theorem clearInterrupts_jetRom (d e : Bool) (s : State) : (clearInterrupts d e s).jetRom = s.jetRom := rfl
@[simp] theorem clearInterrupts_buildPreset (d e : Bool) (s : State) :
    (clearInterrupts d e s).buildPreset = s.buildPreset := rfl
@[simp] theorem clearInterrupts_frame (d e : Bool) (s : State) : (clearInterrupts d e s).frame = s.frame := rfl
@[simp] theorem clearInterrupts_donePx (d e : Bool) (s : State) : (clearInterrupts d e s).donePx = s.donePx := rfl
@[simp] theorem clearInterrupts_inflight (d e : Bool) (s : State) :
    (clearInterrupts d e s).inflight = s.inflight := rfl
@[simp] theorem clearInterrupts_mem (d e : Bool) (s : State) : (clearInterrupts d e s).mem = s.mem := rfl
@[simp] theorem clearInterrupts_inputs (d e : Bool) (s : State) : (clearInterrupts d e s).inputs = s.inputs := rfl
@[simp] theorem clearInterrupts_readData (d e : Bool) (s : State) :
    (clearInterrupts d e s).readData = s.readData := rfl
@[simp] theorem clearInterrupts_hostByte (d e : Bool) (s : State) :
    (clearInterrupts d e s).hostByte = s.hostByte := rfl
@[simp] theorem clearInterrupts_raced (d e : Bool) (s : State) : (clearInterrupts d e s).raced = s.raced := rfl
@[simp] theorem clearInterrupts_freeCount (d e : Bool) (s : State) :
    (clearInterrupts d e s).freeCount = s.freeCount := rfl

/-! A rebuild trigger (40_configuration.md R96). -/

@[simp] theorem triggerRebuild_phase (s : State) : (triggerRebuild s).phase = s.phase := rfl
@[simp] theorem triggerRebuild_buildBusy (s : State) : (triggerRebuild s).buildBusy = true := rfl
@[simp] theorem triggerRebuild_negValid (s : State) : (triggerRebuild s).negValid = s.negValid := rfl
@[simp] theorem triggerRebuild_ovr (s : State) : (triggerRebuild s).ovr = s.ovr := rfl
@[simp] theorem triggerRebuild_errCode (s : State) : (triggerRebuild s).errCode = s.errCode := rfl
@[simp] theorem triggerRebuild_intDone (s : State) : (triggerRebuild s).intDone = s.intDone := rfl
@[simp] theorem triggerRebuild_intErr (s : State) : (triggerRebuild s).intErr = s.intErr := rfl
@[simp] theorem triggerRebuild_doneEn (s : State) : (triggerRebuild s).doneEn = s.doneEn := rfl
@[simp] theorem triggerRebuild_errEn (s : State) : (triggerRebuild s).errEn = s.errEn := rfl
@[simp] theorem triggerRebuild_preset (s : State) : (triggerRebuild s).preset = s.preset := rfl
@[simp] theorem triggerRebuild_nearCut (s : State) : (triggerRebuild s).nearCut = s.nearCut := rfl
@[simp] theorem triggerRebuild_farCut (s : State) : (triggerRebuild s).farCut = s.farCut := rfl
@[simp] theorem triggerRebuild_fmt (s : State) : (triggerRebuild s).fmt = s.fmt := rfl
@[simp] theorem triggerRebuild_geom (s : State) : (triggerRebuild s).geom = s.geom := rfl
@[simp] theorem triggerRebuild_ctxIn (s : State) : (triggerRebuild s).ctxIn = s.ctxIn := rfl
@[simp] theorem triggerRebuild_ctxOut (s : State) : (triggerRebuild s).ctxOut = s.ctxOut := rfl
@[simp] theorem triggerRebuild_ctxGeom (s : State) : (triggerRebuild s).ctxGeom = s.ctxGeom := rfl
@[simp] theorem triggerRebuild_srcBase (s : State) : (triggerRebuild s).srcBase = s.srcBase := rfl
@[simp] theorem triggerRebuild_srcStride (s : State) : (triggerRebuild s).srcStride = s.srcStride := rfl
@[simp] theorem triggerRebuild_srcGeom (s : State) : (triggerRebuild s).srcGeom = s.srcGeom := rfl
@[simp] theorem triggerRebuild_srcFmt (s : State) : (triggerRebuild s).srcFmt = s.srcFmt := rfl
@[simp] theorem triggerRebuild_dstBase (s : State) : (triggerRebuild s).dstBase = s.dstBase := rfl
@[simp] theorem triggerRebuild_dstStride (s : State) : (triggerRebuild s).dstStride = s.dstStride := rfl
@[simp] theorem triggerRebuild_dstGeom (s : State) : (triggerRebuild s).dstGeom = s.dstGeom := rfl
@[simp] theorem triggerRebuild_dstFmt (s : State) : (triggerRebuild s).dstFmt = s.dstFmt := rfl
@[simp] theorem triggerRebuild_lutActive (s : State) : (triggerRebuild s).lutActive = s.lutActive := rfl
@[simp] theorem triggerRebuild_lutShadow (s : State) : (triggerRebuild s).lutShadow = s.lutShadow := rfl
@[simp] theorem triggerRebuild_jetRom (s : State) : (triggerRebuild s).jetRom = s.jetRom := rfl
@[simp] theorem triggerRebuild_buildPreset (s : State) : (triggerRebuild s).buildPreset = some s.preset := rfl
@[simp] theorem triggerRebuild_frame (s : State) : (triggerRebuild s).frame = s.frame := rfl
@[simp] theorem triggerRebuild_donePx (s : State) : (triggerRebuild s).donePx = s.donePx := rfl
@[simp] theorem triggerRebuild_inflight (s : State) : (triggerRebuild s).inflight = s.inflight := rfl
@[simp] theorem triggerRebuild_mem (s : State) : (triggerRebuild s).mem = s.mem := rfl
@[simp] theorem triggerRebuild_inputs (s : State) : (triggerRebuild s).inputs = s.inputs := rfl
@[simp] theorem triggerRebuild_readData (s : State) : (triggerRebuild s).readData = s.readData := rfl
@[simp] theorem triggerRebuild_hostByte (s : State) : (triggerRebuild s).hostByte = s.hostByte := rfl
@[simp] theorem triggerRebuild_raced (s : State) : (triggerRebuild s).raced = s.raced := rfl
@[simp] theorem triggerRebuild_freeCount (s : State) : (triggerRebuild s).freeCount = s.freeCount := rfl

/-! A successful NEGOTIATE (41_negotiation_dispatch.md R112). -/

@[simp] theorem storeContext_phase (i : InFormat) (o : OutFormat) (g : Geom) (s : State) :
    (storeContext i o g s).phase = s.phase := rfl
@[simp] theorem storeContext_buildBusy (i : InFormat) (o : OutFormat) (g : Geom) (s : State) :
    (storeContext i o g s).buildBusy = s.buildBusy := rfl
@[simp] theorem storeContext_negValid (i : InFormat) (o : OutFormat) (g : Geom) (s : State) :
    (storeContext i o g s).negValid = true := rfl
@[simp] theorem storeContext_ovr (i : InFormat) (o : OutFormat) (g : Geom) (s : State) :
    (storeContext i o g s).ovr = s.ovr := rfl
@[simp] theorem storeContext_errCode (i : InFormat) (o : OutFormat) (g : Geom) (s : State) :
    (storeContext i o g s).errCode = s.errCode := rfl
@[simp] theorem storeContext_intDone (i : InFormat) (o : OutFormat) (g : Geom) (s : State) :
    (storeContext i o g s).intDone = s.intDone := rfl
@[simp] theorem storeContext_intErr (i : InFormat) (o : OutFormat) (g : Geom) (s : State) :
    (storeContext i o g s).intErr = s.intErr := rfl
@[simp] theorem storeContext_doneEn (i : InFormat) (o : OutFormat) (g : Geom) (s : State) :
    (storeContext i o g s).doneEn = s.doneEn := rfl
@[simp] theorem storeContext_errEn (i : InFormat) (o : OutFormat) (g : Geom) (s : State) :
    (storeContext i o g s).errEn = s.errEn := rfl
@[simp] theorem storeContext_preset (i : InFormat) (o : OutFormat) (g : Geom) (s : State) :
    (storeContext i o g s).preset = s.preset := rfl
@[simp] theorem storeContext_nearCut (i : InFormat) (o : OutFormat) (g : Geom) (s : State) :
    (storeContext i o g s).nearCut = s.nearCut := rfl
@[simp] theorem storeContext_farCut (i : InFormat) (o : OutFormat) (g : Geom) (s : State) :
    (storeContext i o g s).farCut = s.farCut := rfl
@[simp] theorem storeContext_fmt (i : InFormat) (o : OutFormat) (g : Geom) (s : State) :
    (storeContext i o g s).fmt = s.fmt := rfl
@[simp] theorem storeContext_geom (i : InFormat) (o : OutFormat) (g : Geom) (s : State) :
    (storeContext i o g s).geom = s.geom := rfl
@[simp] theorem storeContext_ctxIn (i : InFormat) (o : OutFormat) (g : Geom) (s : State) :
    (storeContext i o g s).ctxIn = i := rfl
@[simp] theorem storeContext_ctxOut (i : InFormat) (o : OutFormat) (g : Geom) (s : State) :
    (storeContext i o g s).ctxOut = o := rfl
@[simp] theorem storeContext_ctxGeom (i : InFormat) (o : OutFormat) (g : Geom) (s : State) :
    (storeContext i o g s).ctxGeom = g := rfl
@[simp] theorem storeContext_srcBase (i : InFormat) (o : OutFormat) (g : Geom) (s : State) :
    (storeContext i o g s).srcBase = s.srcBase := rfl
@[simp] theorem storeContext_srcStride (i : InFormat) (o : OutFormat) (g : Geom) (s : State) :
    (storeContext i o g s).srcStride = s.srcStride := rfl
@[simp] theorem storeContext_srcGeom (i : InFormat) (o : OutFormat) (g : Geom) (s : State) :
    (storeContext i o g s).srcGeom = s.srcGeom := rfl
@[simp] theorem storeContext_srcFmt (i : InFormat) (o : OutFormat) (g : Geom) (s : State) :
    (storeContext i o g s).srcFmt = s.srcFmt := rfl
@[simp] theorem storeContext_dstBase (i : InFormat) (o : OutFormat) (g : Geom) (s : State) :
    (storeContext i o g s).dstBase = s.dstBase := rfl
@[simp] theorem storeContext_dstStride (i : InFormat) (o : OutFormat) (g : Geom) (s : State) :
    (storeContext i o g s).dstStride = s.dstStride := rfl
@[simp] theorem storeContext_dstGeom (i : InFormat) (o : OutFormat) (g : Geom) (s : State) :
    (storeContext i o g s).dstGeom = s.dstGeom := rfl
@[simp] theorem storeContext_dstFmt (i : InFormat) (o : OutFormat) (g : Geom) (s : State) :
    (storeContext i o g s).dstFmt = s.dstFmt := rfl
@[simp] theorem storeContext_lutActive (i : InFormat) (o : OutFormat) (g : Geom) (s : State) :
    (storeContext i o g s).lutActive = s.lutActive := rfl
@[simp] theorem storeContext_lutShadow (i : InFormat) (o : OutFormat) (g : Geom) (s : State) :
    (storeContext i o g s).lutShadow = s.lutShadow := rfl
@[simp] theorem storeContext_jetRom (i : InFormat) (o : OutFormat) (g : Geom) (s : State) :
    (storeContext i o g s).jetRom = s.jetRom := rfl
@[simp] theorem storeContext_buildPreset (i : InFormat) (o : OutFormat) (g : Geom) (s : State) :
    (storeContext i o g s).buildPreset = s.buildPreset := rfl
@[simp] theorem storeContext_frame (i : InFormat) (o : OutFormat) (g : Geom) (s : State) :
    (storeContext i o g s).frame = s.frame := rfl
@[simp] theorem storeContext_donePx (i : InFormat) (o : OutFormat) (g : Geom) (s : State) :
    (storeContext i o g s).donePx = s.donePx := rfl
@[simp] theorem storeContext_inflight (i : InFormat) (o : OutFormat) (g : Geom) (s : State) :
    (storeContext i o g s).inflight = s.inflight := rfl
@[simp] theorem storeContext_mem (i : InFormat) (o : OutFormat) (g : Geom) (s : State) :
    (storeContext i o g s).mem = s.mem := rfl
@[simp] theorem storeContext_inputs (i : InFormat) (o : OutFormat) (g : Geom) (s : State) :
    (storeContext i o g s).inputs = s.inputs := rfl
@[simp] theorem storeContext_readData (i : InFormat) (o : OutFormat) (g : Geom) (s : State) :
    (storeContext i o g s).readData = s.readData := rfl
@[simp] theorem storeContext_hostByte (i : InFormat) (o : OutFormat) (g : Geom) (s : State) :
    (storeContext i o g s).hostByte = s.hostByte := rfl
@[simp] theorem storeContext_raced (i : InFormat) (o : OutFormat) (g : Geom) (s : State) :
    (storeContext i o g s).raced = s.raced := rfl
@[simp] theorem storeContext_freeCount (i : InFormat) (o : OutFormat) (g : Geom) (s : State) :
    (storeContext i o g s).freeCount = s.freeCount := rfl

/-! The acceptance of a frame (42_frame_transform.md R126). -/

@[simp] theorem latchFrame_phase (s : State) : (latchFrame s).phase = .fenced := rfl
@[simp] theorem latchFrame_buildBusy (s : State) : (latchFrame s).buildBusy = s.buildBusy := rfl
@[simp] theorem latchFrame_negValid (s : State) : (latchFrame s).negValid = s.negValid := rfl
@[simp] theorem latchFrame_ovr (s : State) : (latchFrame s).ovr = s.ovr := rfl
@[simp] theorem latchFrame_errCode (s : State) : (latchFrame s).errCode = s.errCode := rfl
@[simp] theorem latchFrame_intDone (s : State) : (latchFrame s).intDone = s.intDone := rfl
@[simp] theorem latchFrame_intErr (s : State) : (latchFrame s).intErr = s.intErr := rfl
@[simp] theorem latchFrame_doneEn (s : State) : (latchFrame s).doneEn = s.doneEn := rfl
@[simp] theorem latchFrame_errEn (s : State) : (latchFrame s).errEn = s.errEn := rfl
@[simp] theorem latchFrame_preset (s : State) : (latchFrame s).preset = s.preset := rfl
@[simp] theorem latchFrame_nearCut (s : State) : (latchFrame s).nearCut = s.nearCut := rfl
@[simp] theorem latchFrame_farCut (s : State) : (latchFrame s).farCut = s.farCut := rfl
@[simp] theorem latchFrame_fmt (s : State) : (latchFrame s).fmt = s.fmt := rfl
@[simp] theorem latchFrame_geom (s : State) : (latchFrame s).geom = s.geom := rfl
@[simp] theorem latchFrame_ctxIn (s : State) : (latchFrame s).ctxIn = s.ctxIn := rfl
@[simp] theorem latchFrame_ctxOut (s : State) : (latchFrame s).ctxOut = s.ctxOut := rfl
@[simp] theorem latchFrame_ctxGeom (s : State) : (latchFrame s).ctxGeom = s.ctxGeom := rfl
@[simp] theorem latchFrame_srcBase (s : State) : (latchFrame s).srcBase = s.srcBase := rfl
@[simp] theorem latchFrame_srcStride (s : State) : (latchFrame s).srcStride = s.srcStride := rfl
@[simp] theorem latchFrame_srcGeom (s : State) : (latchFrame s).srcGeom = s.srcGeom := rfl
@[simp] theorem latchFrame_srcFmt (s : State) : (latchFrame s).srcFmt = s.srcFmt := rfl
@[simp] theorem latchFrame_dstBase (s : State) : (latchFrame s).dstBase = s.dstBase := rfl
@[simp] theorem latchFrame_dstStride (s : State) : (latchFrame s).dstStride = s.dstStride := rfl
@[simp] theorem latchFrame_dstGeom (s : State) : (latchFrame s).dstGeom = s.dstGeom := rfl
@[simp] theorem latchFrame_dstFmt (s : State) : (latchFrame s).dstFmt = s.dstFmt := rfl
@[simp] theorem latchFrame_lutActive (s : State) : (latchFrame s).lutActive = s.lutActive := rfl
@[simp] theorem latchFrame_lutShadow (s : State) : (latchFrame s).lutShadow = s.lutShadow := rfl
@[simp] theorem latchFrame_jetRom (s : State) : (latchFrame s).jetRom = s.jetRom := rfl
@[simp] theorem latchFrame_buildPreset (s : State) : (latchFrame s).buildPreset = s.buildPreset := rfl
@[simp] theorem latchFrame_frame (s : State) : (latchFrame s).frame = s.latched := rfl
@[simp] theorem latchFrame_donePx (s : State) : (latchFrame s).donePx = [] := rfl
@[simp] theorem latchFrame_inflight (s : State) : (latchFrame s).inflight = s.inflight := rfl
@[simp] theorem latchFrame_mem (s : State) : (latchFrame s).mem = s.mem := rfl
@[simp] theorem latchFrame_inputs (s : State) : (latchFrame s).inputs = s.inputs := rfl
@[simp] theorem latchFrame_readData (s : State) : (latchFrame s).readData = s.readData := rfl
@[simp] theorem latchFrame_hostByte (s : State) : (latchFrame s).hostByte = s.hostByte := rfl
@[simp] theorem latchFrame_raced (s : State) : (latchFrame s).raced = [] := rfl
@[simp] theorem latchFrame_freeCount (s : State) : (latchFrame s).freeCount = s.freeCount := rfl

/-! Completion (42_frame_transform.md R130). -/

@[simp] theorem completeFrame_phase (s : State) : (completeFrame s).phase = .idle := rfl
@[simp] theorem completeFrame_buildBusy (s : State) : (completeFrame s).buildBusy = s.buildBusy := rfl
@[simp] theorem completeFrame_negValid (s : State) : (completeFrame s).negValid = s.negValid := rfl
@[simp] theorem completeFrame_ovr (s : State) : (completeFrame s).ovr = s.ovr := rfl
@[simp] theorem completeFrame_errCode (s : State) : (completeFrame s).errCode = s.errCode := rfl
@[simp] theorem completeFrame_intDone (s : State) : (completeFrame s).intDone = true := rfl
@[simp] theorem completeFrame_intErr (s : State) : (completeFrame s).intErr = s.intErr := rfl
@[simp] theorem completeFrame_doneEn (s : State) : (completeFrame s).doneEn = s.doneEn := rfl
@[simp] theorem completeFrame_errEn (s : State) : (completeFrame s).errEn = s.errEn := rfl
@[simp] theorem completeFrame_preset (s : State) : (completeFrame s).preset = s.preset := rfl
@[simp] theorem completeFrame_nearCut (s : State) : (completeFrame s).nearCut = s.nearCut := rfl
@[simp] theorem completeFrame_farCut (s : State) : (completeFrame s).farCut = s.farCut := rfl
@[simp] theorem completeFrame_fmt (s : State) : (completeFrame s).fmt = s.fmt := rfl
@[simp] theorem completeFrame_geom (s : State) : (completeFrame s).geom = s.geom := rfl
@[simp] theorem completeFrame_ctxIn (s : State) : (completeFrame s).ctxIn = s.ctxIn := rfl
@[simp] theorem completeFrame_ctxOut (s : State) : (completeFrame s).ctxOut = s.ctxOut := rfl
@[simp] theorem completeFrame_ctxGeom (s : State) : (completeFrame s).ctxGeom = s.ctxGeom := rfl
@[simp] theorem completeFrame_srcBase (s : State) : (completeFrame s).srcBase = s.srcBase := rfl
@[simp] theorem completeFrame_srcStride (s : State) : (completeFrame s).srcStride = s.srcStride := rfl
@[simp] theorem completeFrame_srcGeom (s : State) : (completeFrame s).srcGeom = s.srcGeom := rfl
@[simp] theorem completeFrame_srcFmt (s : State) : (completeFrame s).srcFmt = s.srcFmt := rfl
@[simp] theorem completeFrame_dstBase (s : State) : (completeFrame s).dstBase = s.dstBase := rfl
@[simp] theorem completeFrame_dstStride (s : State) : (completeFrame s).dstStride = s.dstStride := rfl
@[simp] theorem completeFrame_dstGeom (s : State) : (completeFrame s).dstGeom = s.dstGeom := rfl
@[simp] theorem completeFrame_dstFmt (s : State) : (completeFrame s).dstFmt = s.dstFmt := rfl
@[simp] theorem completeFrame_lutActive (s : State) : (completeFrame s).lutActive = s.lutActive := rfl
@[simp] theorem completeFrame_lutShadow (s : State) : (completeFrame s).lutShadow = s.lutShadow := rfl
@[simp] theorem completeFrame_jetRom (s : State) : (completeFrame s).jetRom = s.jetRom := rfl
@[simp] theorem completeFrame_buildPreset (s : State) : (completeFrame s).buildPreset = s.buildPreset := rfl
@[simp] theorem completeFrame_frame (s : State) : (completeFrame s).frame = s.frame := rfl
@[simp] theorem completeFrame_donePx (s : State) : (completeFrame s).donePx = s.donePx := rfl
@[simp] theorem completeFrame_inflight (s : State) : (completeFrame s).inflight = s.inflight := rfl
@[simp] theorem completeFrame_mem (s : State) : (completeFrame s).mem = s.mem := rfl
@[simp] theorem completeFrame_inputs (s : State) : (completeFrame s).inputs = s.inputs := rfl
@[simp] theorem completeFrame_readData (s : State) : (completeFrame s).readData = s.readData := rfl
@[simp] theorem completeFrame_hostByte (s : State) : (completeFrame s).hostByte = s.hostByte := rfl
@[simp] theorem completeFrame_raced (s : State) : (completeFrame s).raced = s.raced := rfl
@[simp] theorem completeFrame_freeCount (s : State) : (completeFrame s).freeCount = s.freeCount := rfl

/-! Destination bytes at any value (60_exceptions.md R185). -/

@[simp] theorem scrambleDst_phase (s : State) : (scrambleDst s).phase = s.phase := rfl
@[simp] theorem scrambleDst_buildBusy (s : State) : (scrambleDst s).buildBusy = s.buildBusy := rfl
@[simp] theorem scrambleDst_negValid (s : State) : (scrambleDst s).negValid = s.negValid := rfl
@[simp] theorem scrambleDst_ovr (s : State) : (scrambleDst s).ovr = s.ovr := rfl
@[simp] theorem scrambleDst_errCode (s : State) : (scrambleDst s).errCode = s.errCode := rfl
@[simp] theorem scrambleDst_intDone (s : State) : (scrambleDst s).intDone = s.intDone := rfl
@[simp] theorem scrambleDst_intErr (s : State) : (scrambleDst s).intErr = s.intErr := rfl
@[simp] theorem scrambleDst_doneEn (s : State) : (scrambleDst s).doneEn = s.doneEn := rfl
@[simp] theorem scrambleDst_errEn (s : State) : (scrambleDst s).errEn = s.errEn := rfl
@[simp] theorem scrambleDst_preset (s : State) : (scrambleDst s).preset = s.preset := rfl
@[simp] theorem scrambleDst_nearCut (s : State) : (scrambleDst s).nearCut = s.nearCut := rfl
@[simp] theorem scrambleDst_farCut (s : State) : (scrambleDst s).farCut = s.farCut := rfl
@[simp] theorem scrambleDst_fmt (s : State) : (scrambleDst s).fmt = s.fmt := rfl
@[simp] theorem scrambleDst_geom (s : State) : (scrambleDst s).geom = s.geom := rfl
@[simp] theorem scrambleDst_ctxIn (s : State) : (scrambleDst s).ctxIn = s.ctxIn := rfl
@[simp] theorem scrambleDst_ctxOut (s : State) : (scrambleDst s).ctxOut = s.ctxOut := rfl
@[simp] theorem scrambleDst_ctxGeom (s : State) : (scrambleDst s).ctxGeom = s.ctxGeom := rfl
@[simp] theorem scrambleDst_srcBase (s : State) : (scrambleDst s).srcBase = s.srcBase := rfl
@[simp] theorem scrambleDst_srcStride (s : State) : (scrambleDst s).srcStride = s.srcStride := rfl
@[simp] theorem scrambleDst_srcGeom (s : State) : (scrambleDst s).srcGeom = s.srcGeom := rfl
@[simp] theorem scrambleDst_srcFmt (s : State) : (scrambleDst s).srcFmt = s.srcFmt := rfl
@[simp] theorem scrambleDst_dstBase (s : State) : (scrambleDst s).dstBase = s.dstBase := rfl
@[simp] theorem scrambleDst_dstStride (s : State) : (scrambleDst s).dstStride = s.dstStride := rfl
@[simp] theorem scrambleDst_dstGeom (s : State) : (scrambleDst s).dstGeom = s.dstGeom := rfl
@[simp] theorem scrambleDst_dstFmt (s : State) : (scrambleDst s).dstFmt = s.dstFmt := rfl
@[simp] theorem scrambleDst_lutActive (s : State) : (scrambleDst s).lutActive = s.lutActive := rfl
@[simp] theorem scrambleDst_lutShadow (s : State) : (scrambleDst s).lutShadow = s.lutShadow := rfl
@[simp] theorem scrambleDst_jetRom (s : State) : (scrambleDst s).jetRom = s.jetRom := rfl
@[simp] theorem scrambleDst_buildPreset (s : State) : (scrambleDst s).buildPreset = s.buildPreset := rfl
@[simp] theorem scrambleDst_frame (s : State) : (scrambleDst s).frame = s.frame := rfl
@[simp] theorem scrambleDst_donePx (s : State) : (scrambleDst s).donePx = s.donePx := rfl
@[simp] theorem scrambleDst_inflight (s : State) : (scrambleDst s).inflight = s.inflight := rfl
@[simp] theorem scrambleDst_mem (s : State) : (scrambleDst s).mem = scramble s.mem s.freeCount s.frame.dstBytes := rfl
@[simp] theorem scrambleDst_inputs (s : State) : (scrambleDst s).inputs = s.inputs := rfl
@[simp] theorem scrambleDst_readData (s : State) : (scrambleDst s).readData = s.readData := rfl
@[simp] theorem scrambleDst_hostByte (s : State) : (scrambleDst s).hostByte = s.hostByte := rfl
@[simp] theorem scrambleDst_raced (s : State) : (scrambleDst s).raced = s.raced := rfl
@[simp] theorem scrambleDst_freeCount (s : State) :
    (scrambleDst s).freeCount = s.freeCount + s.frame.dstBytes.length := rfl

/-! A host store (20_memory.md R73). -/

@[simp] theorem hostStoreStep_phase (a : Word) (v : Byte) (s : State) : (hostStoreStep a v s).phase = s.phase := rfl
@[simp] theorem hostStoreStep_buildBusy (a : Word) (v : Byte) (s : State) :
    (hostStoreStep a v s).buildBusy = s.buildBusy := rfl
@[simp] theorem hostStoreStep_negValid (a : Word) (v : Byte) (s : State) :
    (hostStoreStep a v s).negValid = s.negValid := rfl
@[simp] theorem hostStoreStep_ovr (a : Word) (v : Byte) (s : State) : (hostStoreStep a v s).ovr = s.ovr := rfl
@[simp] theorem hostStoreStep_errCode (a : Word) (v : Byte) (s : State) :
    (hostStoreStep a v s).errCode = s.errCode := rfl
@[simp] theorem hostStoreStep_intDone (a : Word) (v : Byte) (s : State) :
    (hostStoreStep a v s).intDone = s.intDone := rfl
@[simp] theorem hostStoreStep_intErr (a : Word) (v : Byte) (s : State) : (hostStoreStep a v s).intErr = s.intErr := rfl
@[simp] theorem hostStoreStep_doneEn (a : Word) (v : Byte) (s : State) : (hostStoreStep a v s).doneEn = s.doneEn := rfl
@[simp] theorem hostStoreStep_errEn (a : Word) (v : Byte) (s : State) : (hostStoreStep a v s).errEn = s.errEn := rfl
@[simp] theorem hostStoreStep_preset (a : Word) (v : Byte) (s : State) : (hostStoreStep a v s).preset = s.preset := rfl
@[simp] theorem hostStoreStep_nearCut (a : Word) (v : Byte) (s : State) :
    (hostStoreStep a v s).nearCut = s.nearCut := rfl
@[simp] theorem hostStoreStep_farCut (a : Word) (v : Byte) (s : State) : (hostStoreStep a v s).farCut = s.farCut := rfl
@[simp] theorem hostStoreStep_fmt (a : Word) (v : Byte) (s : State) : (hostStoreStep a v s).fmt = s.fmt := rfl
@[simp] theorem hostStoreStep_geom (a : Word) (v : Byte) (s : State) : (hostStoreStep a v s).geom = s.geom := rfl
@[simp] theorem hostStoreStep_ctxIn (a : Word) (v : Byte) (s : State) : (hostStoreStep a v s).ctxIn = s.ctxIn := rfl
@[simp] theorem hostStoreStep_ctxOut (a : Word) (v : Byte) (s : State) : (hostStoreStep a v s).ctxOut = s.ctxOut := rfl
@[simp] theorem hostStoreStep_ctxGeom (a : Word) (v : Byte) (s : State) :
    (hostStoreStep a v s).ctxGeom = s.ctxGeom := rfl
@[simp] theorem hostStoreStep_srcBase (a : Word) (v : Byte) (s : State) :
    (hostStoreStep a v s).srcBase = s.srcBase := rfl
@[simp] theorem hostStoreStep_srcStride (a : Word) (v : Byte) (s : State) :
    (hostStoreStep a v s).srcStride = s.srcStride := rfl
@[simp] theorem hostStoreStep_srcGeom (a : Word) (v : Byte) (s : State) :
    (hostStoreStep a v s).srcGeom = s.srcGeom := rfl
@[simp] theorem hostStoreStep_srcFmt (a : Word) (v : Byte) (s : State) : (hostStoreStep a v s).srcFmt = s.srcFmt := rfl
@[simp] theorem hostStoreStep_dstBase (a : Word) (v : Byte) (s : State) :
    (hostStoreStep a v s).dstBase = s.dstBase := rfl
@[simp] theorem hostStoreStep_dstStride (a : Word) (v : Byte) (s : State) :
    (hostStoreStep a v s).dstStride = s.dstStride := rfl
@[simp] theorem hostStoreStep_dstGeom (a : Word) (v : Byte) (s : State) :
    (hostStoreStep a v s).dstGeom = s.dstGeom := rfl
@[simp] theorem hostStoreStep_dstFmt (a : Word) (v : Byte) (s : State) : (hostStoreStep a v s).dstFmt = s.dstFmt := rfl
@[simp] theorem hostStoreStep_lutActive (a : Word) (v : Byte) (s : State) :
    (hostStoreStep a v s).lutActive = s.lutActive := rfl
@[simp] theorem hostStoreStep_lutShadow (a : Word) (v : Byte) (s : State) :
    (hostStoreStep a v s).lutShadow = s.lutShadow := rfl
@[simp] theorem hostStoreStep_jetRom (a : Word) (v : Byte) (s : State) : (hostStoreStep a v s).jetRom = s.jetRom := rfl
@[simp] theorem hostStoreStep_buildPreset (a : Word) (v : Byte) (s : State) :
    (hostStoreStep a v s).buildPreset = s.buildPreset := rfl
@[simp] theorem hostStoreStep_frame (a : Word) (v : Byte) (s : State) : (hostStoreStep a v s).frame = s.frame := rfl
@[simp] theorem hostStoreStep_donePx (a : Word) (v : Byte) (s : State) : (hostStoreStep a v s).donePx = s.donePx := rfl
@[simp] theorem hostStoreStep_inflight (a : Word) (v : Byte) (s : State) :
    (hostStoreStep a v s).inflight = s.inflight := rfl
@[simp] theorem hostStoreStep_mem (a : Word) (v : Byte) (s : State) :
    (hostStoreStep a v s).mem = writeByte s.mem a.toNat v := rfl
@[simp] theorem hostStoreStep_inputs (a : Word) (v : Byte) (s : State) : (hostStoreStep a v s).inputs = s.inputs := rfl
@[simp] theorem hostStoreStep_readData (a : Word) (v : Byte) (s : State) :
    (hostStoreStep a v s).readData = s.readData := rfl
@[simp] theorem hostStoreStep_hostByte (a : Word) (v : Byte) (s : State) :
    (hostStoreStep a v s).hostByte = s.hostByte := rfl
@[simp] theorem hostStoreStep_raced (a : Word) (v : Byte) (s : State) :
    (hostStoreStep a v s).raced = if s.busy then (a.toNat, readByte s.mem a.toNat) :: s.raced else s.raced := rfl
@[simp] theorem hostStoreStep_freeCount (a : Word) (v : Byte) (s : State) :
    (hostStoreStep a v s).freeCount = s.freeCount := rfl

end Sys2Proof.Machine
end

