-- ==== Sys2Proof/Tests/Slice0.lean ====
section
/-! SUPPORT. Tests. Expected results are the vectors of 95_test_vectors.md (V, N, F, G, K and C rows) and the examples of
the rules. Then, for each statement of Certificates/Slice0/Obligations.lean that has hypotheses, a concrete state and
operands that meet them together. -/

namespace Sys2Proof.Tests

open Sys2Proof Sys2Proof.Machine

/-! ### WellFormed -/

/-- The one check: the catch-all row is refused for words an earlier row matches (OP 0x02 and 0xFF, `DATA[31:8]` = 0). -/
theorem test_wellformed_refuses_shadowed_words :
    (Instr.cmdIllegalHigh 2).wellFormed = false ∧ (Instr.cmdIllegalHigh 0xFF).wellFormed = false ∧
    (Instr.cmdIllegalHigh 0x100).wellFormed = true := by
  decide

/-! ### Decoding -/

/-- Words of R82 and R148 (30_encoding.md): `WE` = 1, `OFF` = 0x004, the command in `DATA`. -/
theorem test_decode_commands :
    decode 0x100400000000 = .cmdNop ∧
    decode 0x100400000001 = .cmdNegotiate ∧
    decode 0x100400000002 = .cmdProcess ∧
    decode 0x100400000003 = .cmdClearError ∧
    decode 0x100400000006 = .cmdIllegal04 0b10 ∧
    decode 0x10040000000D = .cmdIllegal08 0b101 ∧
    decode 0x100400000016 = .cmdIllegal10 0x6 ∧
    decode 0x100400000031 = .cmdIllegal20 0x11 ∧
    decode 0x10040000006A = .cmdIllegal40 0x2A ∧
    decode 0x1004000000FF = .cmdIllegal80 0x7F ∧
    decode 0x100400000102 = .cmdIllegalHigh 0x102 := by
  decide

/-- Words of R78 and R80: `WE` = 0 and the register's offset, `DATA` 0. -/
theorem test_decode_reads_low :
    decode 0x000000000000 = .rdId 0 ∧
    decode 0x000400000000 = .rdCmd 0 ∧
    decode 0x000800000000 = .rdStatus 0 ∧
    decode 0x000C00000000 = .rdIntStatus 0 ∧
    decode 0x001000000000 = .rdIntEnable 0 ∧
    decode 0x001400000000 = .rdPreset 0 ∧
    decode 0x001800000000 = .rdNearCut 0 ∧
    decode 0x001C00000000 = .rdFarCut 0 ∧
    decode 0x002000000000 = .rdFmt 0 ∧
    decode 0x002400000000 = .rdGeom 0 := by
  decide

/-- The same, offsets 0x028 to 0x04C. -/
theorem test_decode_reads_high :
    decode 0x002800000000 = .rdCtxFmt 0 ∧
    decode 0x002C00000000 = .rdCtxGeom 0 ∧
    decode 0x003000000000 = .rdSrcBase 0 ∧
    decode 0x003400000000 = .rdSrcStride 0 ∧
    decode 0x003800000000 = .rdSrcGeom 0 ∧
    decode 0x003C00000000 = .rdSrcFmt 0 ∧
    decode 0x004000000000 = .rdDstBase 0 ∧
    decode 0x004400000000 = .rdDstStride 0 ∧
    decode 0x004800000000 = .rdDstGeom 0 ∧
    decode 0x004C00000000 = .rdDstFmt 0 := by
  decide

/-- Words of R78 and R80: `WE` = 1, the register's offset, and the value written. -/
theorem test_decode_writes_low :
    decode 0x100000000000 = .wrId 0x0 ∧
    decode 0x1008FFFFFFFF = .wrStatus 0xFFFFFFFF ∧
    decode 0x100C00000001 = .wrIntStatus 0x1 ∧
    decode 0x101000000001 = .wrIntEnable 0x1 ∧
    decode 0x101400000001 = .wrPreset 0x1 ∧
    decode 0x101800000064 = .wrNearCut 0x64 ∧
    decode 0x101CFFFFFFFF = .wrFarCut 0xFFFFFFFF ∧
    decode 0x102000000301 = .wrFmt 0x301 ∧
    decode 0x102400020002 = .wrGeom 0x20002 := by
  decide

/-- The same, offsets 0x028 to 0x04C. -/
theorem test_decode_writes_high :
    decode 0x102800000301 = .wrCtxFmt 0x301 ∧
    decode 0x102C00010001 = .wrCtxGeom 0x10001 ∧
    decode 0x103000001000 = .wrSrcBase 0x1000 ∧
    decode 0x103400000002 = .wrSrcStride 0x2 ∧
    decode 0x103800020002 = .wrSrcGeom 0x20002 ∧
    decode 0x103C00000001 = .wrSrcFmt 0x1 ∧
    decode 0x104000002000 = .wrDstBase 0x2000 ∧
    decode 0x104400000006 = .wrDstStride 0x6 ∧
    decode 0x104800020002 = .wrDstGeom 0x20002 ∧
    decode 0x104C00000002 = .wrDstFmt 0x2 := by
  decide

/-- Words of R79 and R153: an unmapped or misaligned offset, either `WE`. -/
theorem test_decode_unmapped_and_misaligned :
    decode 0x105C12345678 = .unmapped050 true 3 0x12345678 ∧
    decode 0x006000000000 = .unmapped060 false 0 0 ∧
    decode 0x00FC00000000 = .unmapped080 false 31 0 ∧
    decode 0x010400000000 = .unmapped100 false 1 0 ∧
    decode 0x13FC00000007 = .unmapped200 true 0x7F 7 ∧
    decode 0x040000000000 = .unmapped400 false 0 0 ∧
    decode 0x0FFC00000000 = .unmapped800 false 0x1FF 0 ∧
    decode 0x000100000000 = .misaligned01 false 0 0 ∧
    decode 0x100600000002 = .misaligned10 true 1 2 ∧
    decode 0x0FFF00000000 = .misaligned11 false 0x3FF 0 := by
  decide

/-- A number of more than 45 bits is no transaction word (R78). -/
theorem test_decode_rejects_by_name :
    decodeTableWord 48 0x200000000000 = none ∧
    decodeTableWord 48 0x101C00000064 = some (.wrFarCut 0x64) := by
  decide

/-! ### One transaction at a time -/

/-- The state after one transaction, where there is a next state. -/
def after (w : TWord) (s : State) : Option State :=
  match step (placeTransaction w s) with
  | .next t => some t
  | .fault _ => none
  | .refused _ => none

/-- What a read returns. -/
def readOf (w : TWord) (s : State) : Option Word := (after w s).map (·.readData)

/-- Base case B of 95_test_vectors.md L2.7: a negotiated 4 by 1 frame, GRAY8 to RGB, the source at 0x1000 holding 0, 128,
200, 255 (program P1's samples), the destination at 0x2000; here PRESET is JET and its table is built. -/
def caseB : State :=
  { State.reset with
    negValid := true, geom := ⟨4, 1⟩, ctxGeom := ⟨4, 1⟩, preset := .jet, buildPreset := some .jet
    srcBase := 0x1000, srcStride := 4, srcGeom := ⟨4, 1⟩, dstBase := 0x2000, dstStride := 12, dstGeom := ⟨4, 1⟩
    mem := [(0x1001, 128), (0x1002, 200), (0x1003, 255)] }

/-- A frame of base case B that waits at the build fence. -/
def fencedB : State := latchFrame caseB

/-- The same frame with the table published. -/
def runB : State := publishStep fencedB

/-- C1. -/
theorem test_nop : (after 0x100400000000 State.reset).map (·.statusWord) = some 0 := by decide

/-- G1, and G5 after it (height 0): the context stays. -/
theorem test_negotiate :
    (after 0x100400000001 { State.reset with geom := ⟨1, 1⟩ }).map (fun t => (t.statusWord, t.ctxGeom)) =
      some (0x4, ⟨1, 1⟩) ∧
    (after 0x100400000001 { State.reset with fmt := ⟨1, 3⟩, geom := ⟨5, 0⟩, ctxGeom := ⟨1, 1⟩, negValid := true }).map
      (fun t => (t.statusWord, t.ctxGeom)) = some (0x204, ⟨1, 1⟩) := by
  decide

/-- G7: GRAY16_LE to BGRA, 65535 by 65535. -/
theorem test_negotiate_largest :
    (after 0x100400000001 { State.reset with fmt := ⟨1, 3⟩, geom := ⟨0xFFFF, 0xFFFF⟩ }).map
      (fun t => (t.ctxIn, t.ctxOut, t.ctxGeom.width)) = some (.gray16le, .bgra, 0xFFFF) := by
  decide

/-- What PROCESS leaves: `BUSY` and the error code. -/
def processed (s : State) : Option (Bool × ErrorCode) := (after 0x100400000002 s).map fun t => (t.busy, t.errCode)

/-- K0, K10, K13, K15 and K16: accepted, the last four at the edges of checks 6 and 7. -/
theorem test_process_accepts :
    processed caseB = some (true, .none) ∧
    processed { caseB with srcBase := 0xFFFFFFFC } = some (true, .none) ∧
    processed { caseB with dstBase := 0xFFFFFFF4 } = some (true, .none) ∧
    processed { caseB with dstBase := 0x1004 } = some (true, .none) ∧
    processed { caseB with dstBase := 0x0FF4 } = some (true, .none) := by
  decide

/-- K1, K3, K5, K6, K9, K12, K14, K17, K20 and K22: each check, and their order. -/
theorem test_process_reports :
    processed { caseB with negValid := false } = some (false, .unsupportedFormat) ∧
    processed { caseB with dstBase := 0 } = some (false, .invalidFrame) ∧
    processed { caseB with dstFmt := 2 } = some (false, .unsupportedFormat) ∧
    processed { caseB with srcGeom := ⟨3, 1⟩ } = some (false, .unsupportedFormat) ∧
    processed { caseB with dstStride := 11 } = some (false, .invalidFrame) ∧
    processed { caseB with dstBase := 0xFFFFFFF8 } = some (false, .invalidFrame) ∧
    processed { caseB with dstBase := 0x1003 } = some (false, .invalidFrame) ∧
    processed { caseB with dstBase := 0x0FF5 } = some (false, .invalidFrame) ∧
    processed { caseB with srcBase := 0, srcFmt := 1 } = some (false, .invalidFrame) ∧
    processed { caseB with dstGeom := ⟨4, 2⟩, dstBase := 0xFFFFFFFF } = some (false, .unsupportedFormat) := by
  decide

/-- C2 and C9. -/
theorem test_clear_error :
    (after 0x100400000003 { runB with errCode := .unsupportedFormat, ovr := true, intErr := true }).map
      (fun t => (t.errCode, t.ovr, t.intErr, t.busy)) = some (.none, false, true, true) := by
  decide

/-- C7 and C8: dropped while busy. -/
theorem test_dropped_while_busy :
    (after 0x100400000002 runB).map (fun t => (t.ovr, t.errCode, t.phase)) = some (true, .none, .running) ∧
    (after 0x100400000001 runB).map (fun t => (t.ovr, t.errCode, t.phase)) = some (true, .none, .running) := by
  decide

/-- C3 to C6 and one word for each other row of illegal commands: `ERR_CODE` = 4 and `INT_STATUS` = 2. -/
theorem test_illegal_commands :
    ([0x100400000004, 0x100400000008, 0x10040000001F, 0x100400000020, 0x100400000040, 0x1004000000FF, 0x100400000100,
      0x100400000102] : List TWord).all
      (fun w => (after w State.reset).map (fun t => (t.statusWord, t.intErr, t.intDone)) = some (0x400, true, false)) =
      true := by
  decide

/-- L2.9: what every register reads right after reset, offsets 0x000 to 0x04C. -/
theorem test_reads_after_reset :
    (List.range 20).map (fun k => readOf (BitVec.ofNat 45 (4 * k * 2 ^ 32)) State.reset) =
      [0x46434D01, 0, 0, 0, 0, 0, 0, 0xFFFF, 0, 0, 0, 0, 0, 0, 0, 0, 0, 0, 0, 0].map some := by
  decide

/-- A state with a value of its own in every register, for the reads and for what a write leaves alone. -/
def marked : State :=
  { State.reset with
    phase := .running, negValid := true, ovr := true, errCode := .busError, intErr := true, doneEn := true, errEn := false
    preset := .jet, nearCut := 0x64, farCut := 0xC8, fmt := ⟨0xF, 0xF⟩, geom := ⟨3, 2⟩, ctxIn := .gray16le
    ctxOut := .bgra, ctxGeom := ⟨2, 7⟩, srcBase := 0x1000, srcStride := 4, srcGeom := ⟨1, 5⟩, srcFmt := 1
    dstBase := 0x2000, dstStride := 8, dstGeom := ⟨2, 6⟩, dstFmt := 3 }

/-- The layouts of 10_state.md R26 to R43, offsets 0x008 to 0x04C. -/
theorem test_reads_of_every_register :
    (List.range 18).map (fun k => readOf (BitVec.ofNat 45 ((4 * k + 8) * 2 ^ 32)) marked) =
      [0x50D, 2, 1, 1, 0x64, 0xC8, 0xF0F, 0x20003, 0x301, 0x70002, 0x1000, 4, 0x50001, 1, 0x2000, 8, 0x60002, 3].map
        some := by
  decide

/-- V1, V3, V4 and V5: the preset's code is the whole word, and a refused write triggers no build. -/
theorem test_write_preset :
    (after 0x101400000001 State.reset).map (fun t => (t.preset, t.buildBusy, t.errCode)) =
      some (.jet, true, .none) ∧
    (after 0x101400000002 caseB).map (fun t => (t.preset, t.buildBusy, t.errCode, t.intErr)) =
      some (.jet, false, .invalidConfiguration, true) ∧
    (after 0x101400000101 State.reset).map (fun t => (t.preset, t.buildBusy, t.errCode, t.intErr)) =
      some (.none, false, .invalidConfiguration, true) := by
  decide

/-- V6, V7 and V8: 16 bits are stored, a build starts, a far cut below the near cut is no error. -/
theorem test_write_cuts :
    (after 0x101800010064 State.reset).map (fun t => (t.nearCut, t.buildBusy, t.buildPreset)) =
      some (0x64, true, some .none) ∧
    (after 0x101CFFFFFFFF State.reset).map (fun t => (t.farCut, t.buildBusy)) = some (0xFFFF, true) ∧
    (after 0x101C00000064 { State.reset with nearCut := 200 }).map (fun t => (t.farCut, t.errCode)) =
      some (100, .none) := by
  decide

/-- C22, C23, G8, G9 and the examples of R110, R111 and R116 to R123: which bits each write stores. -/
theorem test_writes_store_their_fields :
    (after 0x1020FFFFFFFF State.reset).map (·.fmt) = some ⟨0xF, 0xF⟩ ∧
    (after 0x1020000000F0 State.reset).map (·.fmt) = some ⟨0, 0⟩ ∧
    (after 0x102000001301 State.reset).map (·.fmt) = some ⟨1, 3⟩ ∧
    (after 0x102400020003 State.reset).map (·.geom) = some ⟨3, 2⟩ ∧
    (after 0x103000001000 State.reset).map (·.srcBase) = some 0x1000 ∧
    (after 0x103400000004 State.reset).map (·.srcStride) = some 4 ∧
    (after 0x103800010005 State.reset).map (·.srcGeom) = some ⟨5, 1⟩ ∧
    (after 0x103C00000011 State.reset).map (·.srcFmt) = some 1 ∧
    (after 0x104000002000 State.reset).map (·.dstBase) = some 0x2000 ∧
    (after 0x104400000006 State.reset).map (·.dstStride) = some 6 ∧
    (after 0x104800020005 State.reset).map (·.dstGeom) = some ⟨5, 2⟩ ∧
    (after 0x104C00000002 State.reset).map (·.dstFmt) = some 2 := by
  decide

/-- C11, C12 and C13. -/
theorem test_write_int_status :
    (after 0x100C00000001 { State.reset with intDone := true, intErr := true }).map (fun t => (t.intErr, t.intDone)) =
      some (true, false) ∧
    (after 0x100CFFFFFFFC { State.reset with intDone := true, intErr := true }).map (fun t => (t.intErr, t.intDone)) =
      some (true, true) ∧
    (after 0x100C00000003 { State.reset with intDone := true, intErr := true, errCode := .invalidConfiguration }).map
      (fun t => (t.intErr, t.intDone, t.errCode)) = some (false, false, .invalidConfiguration) := by
  decide

/-- C14 and C15. -/
theorem test_write_int_enable :
    (after 0x1010FFFFFFFF State.reset).map (fun t => (t.errEn, t.doneEn)) = some (true, true) ∧
    (after 0x101000000001 { State.reset with intDone := true }).map (·.irq) = some true := by
  decide

/-- C16 to C20 and the other read-only registers: nothing is written, and an unmapped offset reads 0. -/
theorem test_ignored_writes_and_unmapped_reads :
    (after 0x100000000000 marked).map (·.statusWord) = some 0x50D ∧
    (after 0x1008FFFFFFFF marked).map (·.statusWord) = some 0x50D ∧
    (after 0x102800000000 marked).map (fun t => (t.ctxIn, t.ctxOut)) = some (.gray16le, .bgra) ∧
    (after 0x102C00010001 marked).map (·.ctxGeom) = some ⟨2, 7⟩ ∧
    (after 0x105012345678 { marked with readData := 9 }).map (fun t => (t.statusWord, t.readData)) = some (0x50D, 9) ∧
    ([0x005000000000, 0x007C00000000, 0x008000000000, 0x010000000000, 0x020000000000, 0x040000000000,
      0x0FFC00000000] : List TWord).all (fun w => readOf w { marked with readData := 9 } = some 0) = true := by
  decide

/-- 20_memory.md R64: misaligned and narrow accesses are refused by name. -/
theorem test_refused_accesses :
    step (placeTransaction 0x000100000000 State.reset) = .refused .misalignedRegisterAccess ∧
    step (placeTransaction 0x100600000002 State.reset) = .refused .misalignedRegisterAccess ∧
    step (placeTransaction 0x0FFF00000000 State.reset) = .refused .misalignedRegisterAccess ∧
    step { State.reset with inputs := [.host 16 0x100400000002] } = .refused .registerAccessNot32Bits :=
  ⟨rfl, rfl, rfl, rfl⟩

/-! ### The builder and the engine -/

/-- A latch of a frame, for the normalizer's and the formatter's vectors. -/
def latch (p : Preset) (i : InFormat) (near far : Half) : FrameLatch :=
  { FrameLatch.reset with preset := p, near := near, far := far, inFmt := i }

/-- N3, N6, N7, N8 and N1: GRAY8. -/
theorem test_normalizer_gray8 :
    ([0, 99, 100, 101, 127, 128, 150, 199, 200, 201, 255].map fun v => ((latch .jet .gray8 100 200).idx v).toNat) =
      [0, 0, 0, 2, 68, 71, 127, 252, 255, 255, 255] ∧
    ([0, 127, 128, 129, 255].map fun v => ((latch .jet .gray8 128 128).idx v).toNat) = [0, 0, 0, 255, 255] ∧
    ([199, 200, 201].map fun v => ((latch .jet .gray8 200 100).idx v).toNat) = [0, 0, 255] ∧
    ([0, 1, 2, 255].map fun v => ((latch .jet .gray8 0 1).idx v).toNat) = [0, 255, 255, 255] ∧
    ([0, 77, 255].map fun v => ((latch .jet .gray8 0 0xFFFF).idx v).toNat) = [0, 77, 255] := by
  decide

/-- N5, N11, N12 and N17: the clamp of the cuts, and GRAY16_LE. -/
theorem test_normalizer_gray16 :
    ([0, 255].map fun v => ((latch .jet .gray8 300 0xFFFF).idx v).toNat) = [0, 0] ∧
    ([0, 256, 257, 32767, 32768, 65534, 65535].map fun v => ((latch .jet .gray16le 0 0xFFFF).idx v).toNat) =
      [0, 0, 1, 127, 127, 254, 255] ∧
    ([999, 1000, 1001, 1008, 2000, 2999, 3000, 65535].map fun v => ((latch .jet .gray16le 1000 3000).idx v).toNat) =
      [0, 0, 0, 1, 127, 254, 255, 255] ∧
    ([65534, 65535].map fun v => ((latch .jet .gray16le 65534 65535).idx v).toNat) = [0, 255] := by
  decide

/-- L2.4: the NONE passthrough, which uses no cut. -/
theorem test_none_output :
    ([0, 256, 257, 32767, 32768, 32896, 65278, 65279, 65535].map fun v =>
      ((latch .none .gray16le 0 0xFFFF).color blackLut v).g.toNat) = [0, 0, 1, 127, 127, 128, 254, 254, 255] ∧
    (latch .none .gray8 100 200).color blackLut 50 = ⟨50, 50, 50⟩ := by
  decide

/-- L2.2: entries of the palette ROM. -/
theorem test_palette_rom :
    ([0, 31, 33, 71, 96, 128, 159, 160, 200, 223, 255].map fun i => lookup defaultJetRom (BitVec.ofNat 8 i)) =
      [⟨0, 0, 127⟩, ⟨0, 0, 251⟩, ⟨0, 4, 255⟩, ⟨0, 156, 255⟩, ⟨1, 255, 253⟩, ⟨129, 255, 125⟩, ⟨253, 255, 1⟩,
        ⟨255, 252, 0⟩, ⟨255, 92, 0⟩, ⟨255, 0, 0⟩, ⟨127, 0, 0⟩] := by
  decide

/-- F4 to F7: JET[200] in the four output formats. -/
theorem test_pack :
    pack .rgb ⟨255, 92, 0⟩ = [255, 92, 0] ∧ pack .bgr ⟨255, 92, 0⟩ = [0, 92, 255] ∧
    pack .rgba ⟨255, 92, 0⟩ = [255, 92, 0, 255] ∧ pack .bgra ⟨255, 92, 0⟩ = [0, 92, 255, 255] := by
  decide

/-- F1, F2 and F3: a little-endian sample, and the two addresses of pixel (2, 3). -/
theorem test_fetch_and_addresses :
    memRead [(0x1023, 0x34), (0x1024, 0x12)] 0x1023 2 = 0x1234 ∧
    { latch .none .gray16le 0 0 with srcBase := 0x1001, srcStride := 10 }.srcAddr (2, 3) = 0x1023 ∧
    { latch .none .gray8 0 0 with outFmt := .rgba, dstBase := 0x8000, dstStride := 20 }.dstAddr (2, 3) = 0x8044 := by
  decide

/-- S7: the engine's step for the sample 128 under JET issues JET[128] at the pixel's address. -/
theorem test_pixel_step :
    (match deliver (.pixel 1 0 [] .ok) runB with
      | .next t => (t.inflight, t.donePx)
      | .fault _ => ([], [])
      | .refused _ => ([], [])) = ([(0x2003, 129), (0x2004, 255), (0x2005, 125)], [(1, 0)]) := by
  decide

/-- V10: no pixel work while a build is in progress. -/
theorem test_build_fence :
    (publishStep { fencedB with buildBusy := true }).phase = .fenced ∧ (publishStep fencedB).phase = .running ∧
    (buildStep { fencedB with buildBusy := true }).buildBusy = false := by
  decide

/-- The canonical form: writing what an unlisted byte reads as removes the entry. -/
theorem test_memory_is_canonical :
    writeByte [(5, 1), (9, 2)] 7 3 = [(5, 1), (7, 3), (9, 2)] ∧ writeByte [(5, 1), (9, 2)] 9 0 = [(5, 1)] ∧
    Memory.wf [(5, 1), (9, 2)] = true ∧ Memory.wf [(9, 1), (5, 2)] = false ∧ Memory.wf [(5, 0)] = false := by
  decide

/-! ### Witnesses: for each statement with hypotheses, states and operands that meet them together -/

/-- `DecodeOfEncodeIsTheTransaction`: well-formed transactions, the one with a check among them. -/
theorem witness_decodeOfEncode :
    (Instr.cmdIllegalHigh 0x102).wellFormed = true ∧ (Instr.cmdIllegalHigh 0xFFFFFFFF).wellFormed = true ∧
    (Instr.wrPreset 7).wellFormed = true := by
  decide

/-- `StepRunsTheDecodedTransaction`. -/
theorem witness_stepRuns :
    (placeTransaction 0x101400000001 caseB).inputs = .host 32 0x101400000001 :: [] ∧
    decode 0x101400000001 = .wrPreset 1 ∧ (Instr.wrPreset 1).wellFormed = true := by
  decide

/-- `AccessesWithoutMeaningAreRefused`: narrower and wider accesses, and the first and the last misaligned offset. -/
theorem witness_accessesRefused :
    ({ State.reset with inputs := [.host 16 0] } : State).inputs = .host 16 0 :: [] ∧ 16 ≠ 32 ∧
    ({ State.reset with inputs := [.host 64 0] } : State).inputs = .host 64 0 :: [] ∧ 64 ≠ 32 ∧
    (0x001#12).toNat % 4 ≠ 0 ∧ (0xFFF#12).toNat % 4 ≠ 0 := by
  decide

/-- `OnlyAccessesWithoutMeaningAreRefused`: one of each. -/
theorem witness_onlyAccessesRefused :
    step { State.reset with inputs := [.host 32 0x000300000000] } = .refused .misalignedRegisterAccess ∧
    step { State.reset with inputs := [.host 8 0x000000000000] } = .refused .registerAccessNot32Bits :=
  ⟨rfl, rfl⟩

/-- `InterruptRegisterWrites`, third clause. -/
theorem witness_interruptEnable : ∃ t, exec (.wrIntEnable 1) { State.reset with intDone := true } = .next t := ⟨_, rfl⟩

/-- `UnmappedOffsetsReadZeroAndIgnoreWrites`: the first and the last unmapped offset. -/
theorem witness_unmapped :
    (0x050 ≤ (0x050#12).toNat ∧ (0x050#12).toNat % 4 = 0) ∧ (0x050 ≤ (0xFFC#12).toNat ∧ (0xFFC#12).toNat % 4 = 0) := by
  decide

/-- `IllegalCommandWordsRaise`: the smallest and the largest word of each kind. -/
theorem witness_illegalCommand :
    ((0x100#32).toNat / 256 ≠ 0 ∧ (0xFFFFFFFF#32).toNat / 256 ≠ 0) ∧
    (4 ≤ (0x04#32).toNat % 256 ∧ 4 ≤ (0xFF#32).toNat % 256) := by
  decide

/-- A frame that is aborting with nothing left in flight. -/
def abortB : State := { runB with phase := .aborting }

/-- `ClearErrorClearsCodeAndOverrun`, third clause. -/
theorem witness_clearError : abortB.phase = .aborting ∧ abortB.inflight = [] := by decide

/-- `CommandsWhileBusyAreDropped`, in each busy phase. -/
theorem witness_busy : fencedB.phase ≠ .idle ∧ runB.phase ≠ .idle ∧ abortB.phase ≠ .idle := by decide

/-- `NegotiateStoresTheContextOrRaises`: busy; each failing condition at its first value; success at both ends. -/
theorem witness_negotiate :
    runB.phase ≠ .idle ∧
    (({ caseB with fmt := ⟨2, 0⟩ } : State).phase = .idle ∧ 2 ≤ ({ caseB with fmt := ⟨2, 0⟩ } : State).fmt.inFmt.toNat) ∧
    4 ≤ ({ caseB with fmt := ⟨1, 4⟩ } : State).fmt.outFmt.toNat ∧
    ({ caseB with geom := ⟨0, 5⟩ } : State).geom.width.toNat = 0 ∧
    ({ caseB with geom := ⟨5, 0⟩ } : State).geom.height.toNat = 0 ∧
    (let s : State := { caseB with fmt := ⟨1, 3⟩, geom := ⟨1, 0xFFFF⟩ }
     s.phase = .idle ∧ s.fmt.inFmt.toNat < 2 ∧ s.fmt.outFmt.toNat < 4 ∧ 1 ≤ s.geom.width.toNat ∧
       1 ≤ s.geom.height.toNat) := by
  decide

/-- The first failing check of a state from its place in the list. -/
theorem firstFailing_at (s : State) (k : Nat) (hk : k < (processChecks s).length)
    (hb : ∀ b ∈ (processChecks s).take k, ¬ b.1) (h : ((processChecks s)[k]'hk).1) :
    FirstFailing (processChecks s) ((processChecks s)[k]'hk).2 :=
  ⟨(processChecks s).take k, (processChecks s)[k], (processChecks s).drop (k + 1), by simp, hb, h, rfl⟩

/-- `ProcessReportsTheFirstFailingCheckOrLatches`: check 1 fails (K1). -/
theorem witness_check1 : FirstFailing (processChecks { caseB with negValid := false }) .unsupportedFormat :=
  firstFailing_at { caseB with negValid := false } 0 (by decide) (by simp)
    (by
    simp [processChecks, caseB, State.reset, State.resetWith, InFormat.number, OutFormat.number, InFormat.bytes,
      OutFormat.bytes])

/-- The same: check 2 (K2). -/
theorem witness_check2 : FirstFailing (processChecks { caseB with srcBase := 0 }) .invalidFrame :=
  firstFailing_at { caseB with srcBase := 0 } 1 (by decide) (by
    simp [processChecks, caseB, State.reset, State.resetWith, InFormat.number, OutFormat.number, InFormat.bytes,
      OutFormat.bytes])
    (by
    simp [processChecks, caseB, State.reset, State.resetWith, InFormat.number, OutFormat.number, InFormat.bytes,
      OutFormat.bytes])

/-- The same: check 3 (K5). -/
theorem witness_check3 : FirstFailing (processChecks { caseB with dstFmt := 2 }) .unsupportedFormat :=
  firstFailing_at { caseB with dstFmt := 2 } 2 (by decide) (by
    simp [processChecks, caseB, State.reset, State.resetWith, InFormat.number, OutFormat.number, InFormat.bytes,
      OutFormat.bytes])
    (by
    simp [processChecks, caseB, State.reset, State.resetWith, InFormat.number, OutFormat.number, InFormat.bytes,
      OutFormat.bytes])

/-- The same: check 4 (K7). -/
theorem witness_check4 : FirstFailing (processChecks { caseB with dstGeom := ⟨4, 2⟩ }) .unsupportedFormat :=
  firstFailing_at { caseB with dstGeom := ⟨4, 2⟩ } 3 (by decide) (by
    simp [processChecks, caseB, State.reset, State.resetWith, InFormat.number, OutFormat.number, InFormat.bytes,
      OutFormat.bytes])
    (by
    simp [processChecks, caseB, State.reset, State.resetWith, InFormat.number, OutFormat.number, InFormat.bytes,
      OutFormat.bytes])

/-- The same: check 5, one byte short (K8). -/
theorem witness_check5 : FirstFailing (processChecks { caseB with srcStride := 3 }) .invalidFrame :=
  firstFailing_at { caseB with srcStride := 3 } 4 (by decide) (by
    simp [processChecks, caseB, State.reset, State.resetWith, InFormat.number, OutFormat.number, InFormat.bytes,
      OutFormat.bytes])
    (by
    simp [processChecks, caseB, State.reset, State.resetWith, InFormat.number, OutFormat.number, InFormat.bytes,
      OutFormat.bytes])

/-- The same: check 6, one byte past the end (K11). -/
theorem witness_check6 : FirstFailing (processChecks { caseB with srcBase := 0xFFFFFFFD }) .invalidFrame :=
  firstFailing_at { caseB with srcBase := 0xFFFFFFFD } 5 (by decide) (by
    simp [processChecks, caseB, State.reset, State.resetWith, InFormat.number, OutFormat.number, InFormat.bytes,
      OutFormat.bytes])
    (by
    simp [processChecks, caseB, State.reset, State.resetWith, InFormat.number, OutFormat.number, InFormat.bytes,
      OutFormat.bytes])

/-- The same: check 7, one byte shared (K14). -/
theorem witness_check7 : FirstFailing (processChecks { caseB with dstBase := 0x1003 }) .invalidFrame :=
  firstFailing_at { caseB with dstBase := 0x1003 } 6 (by decide) (by
    simp [processChecks, caseB, State.reset, State.resetWith, InFormat.number, OutFormat.number, InFormat.bytes,
      OutFormat.bytes])
    (⟨0x1003, by decide⟩)

/-- No check fails, with planes that touch (K15). -/
theorem witness_noneFails :
    ({ caseB with dstBase := 0x1004 } : State).phase = .idle ∧ NoneFails (processChecks { caseB with dstBase := 0x1004 }) := by
  refine ⟨rfl, ?_⟩
  simp [NoneFails, processChecks, caseB, State.reset, State.resetWith, InFormat.number, OutFormat.number, InFormat.bytes,
    OutFormat.bytes]
  intro a h1 h2 h3
  omega

/-- `TransactionsNeverTouchMemoryOrTables` and, in a frame, `TransactionsNeverChangeAFrameInProgress`. -/
theorem witness_transactions :
    (∃ t, exec .cmdProcess caseB = .next t) ∧ runB.phase ≠ .idle ∧ (∃ t, exec (.wrSrcBase 9) runB = .next t) :=
  ⟨⟨_, rfl⟩, by decide, ⟨_, rfl⟩⟩

/-- `OnlyAnAcceptedProcessStartsAFrame`. -/
theorem witness_starts :
    caseB.phase = .idle ∧ ∃ t, deliver (.host 32 0x100400000002) caseB = .next t ∧ t.phase ≠ .idle :=
  ⟨rfl, _, rfl, by decide⟩

/-- `ErrorCodeIsSticky`: an error, CLEAR_ERROR and reset each change the code; the same error again sets
`INT_STATUS.ERR`. -/
theorem witness_errorCode :
    (∃ t, deliver (.host 32 0x100400000004) caseB = .next t ∧ t.errCode ≠ caseB.errCode) ∧
    (∃ t, deliver (.host 32 0x100400000003) marked = .next t ∧ t.errCode ≠ marked.errCode) ∧
    (∃ t, deliver .reset { caseB with errCode := .busError } = .next t ∧ t.errCode ≠ .busError) ∧
    (∃ t, deliver (.host 32 0x100400000004) { caseB with errCode := .illegalCommand } = .next t ∧ t.intErr = true) :=
  ⟨⟨_, rfl, by decide⟩, ⟨_, rfl, by decide⟩, ⟨_, rfl, by decide⟩, ⟨_, rfl, rfl⟩⟩

/-- `EachCauseRecordsItsError`: a cause of each code, at the first value of its range. -/
theorem witness_causes :
    Records (.host 32 0x101400000002) caseB .invalidConfiguration ∧
    Records (.host 32 0x100400000001) { caseB with geom := ⟨0, 1⟩ } .unsupportedFormat ∧
    Records (.host 32 0x100400000002) { caseB with negValid := false } .unsupportedFormat ∧
    Records (.host 32 0x100400000002) { caseB with srcBase := 0 } .invalidFrame ∧
    Records (.host 32 0x100400000004) runB .illegalCommand ∧ Records (.host 32 0x100400000100) runB .illegalCommand ∧
    Records .finish abortB .busError :=
  ⟨⟨_, 2, rfl, by decide, by decide⟩, ⟨_, rfl, rfl, .inl ⟨by decide, .inr (.inr (.inl rfl))⟩⟩,
    ⟨_, rfl, rfl, .inr ⟨by decide, witness_check1⟩⟩, ⟨_, rfl, rfl, by decide, witness_check2⟩,
    ⟨_, rfl, by decide, by decide, .inr (by decide)⟩, ⟨_, rfl, by decide, by decide, .inl (by decide)⟩, rfl, rfl, rfl⟩

/-- `EachCauseRecordsItsError`, second clause: a read that is answered with an error. -/
theorem witness_aborts :
    ∃ t, deliver (.pixel 3 0 [] .error) runB = .next t ∧ runB.phase ≠ .aborting ∧ t.phase = .aborting :=
  ⟨_, rfl, by decide, by decide⟩

/-- `InterruptOutputIsLevelAndStays`: an asserted output, before a step that keeps it and one that drops it. -/
theorem witness_irq :
    marked.intErr = true ∧ ({ marked with errEn := true } : State).irq = true ∧
    (∃ t, deliver (.host 32 0x100400000003) { marked with errEn := true } = .next t ∧ t.irq = true) ∧
    (∃ t, deliver (.host 32 0x100C00000002) { marked with errEn := true } = .next t ∧ t.irq = false) :=
  ⟨rfl, rfl, ⟨_, rfl, rfl⟩, ⟨_, rfl, rfl⟩⟩

/-- A 1 by 1 frame, GRAY8 to RGB under NONE, with its one pixel done and every byte written. -/
def doneOne : State :=
  { State.reset with
    phase := .running, donePx := [(0, 0)], mem := [(0x1000, 90), (0x2000, 90), (0x2001, 90), (0x2002, 90)]
    frame :=
      { FrameLatch.reset with
        width := 1, height := 1, srcBase := 0x1000, srcStride := 1, dstBase := 0x2000, dstStride := 3 } }

/-- The same frame before its pixel. -/
def runOne : State := { doneOne with donePx := [], mem := [(0x1000, 90)] }

/-- The same frame with its pixel's bytes still in flight. -/
def flightOne : State :=
  { doneOne with inflight := [(0x2000, 90), (0x2001, 90), (0x2002, 90)], mem := [(0x1000, 90)] }

/-- `DoneIsSetOnlyByCompletion`. -/
theorem witness_done : doneOne.intDone = false ∧ ∃ t, deliver .finish doneOne = .next t ∧ t.intDone = true :=
  ⟨rfl, _, rfl, by decide⟩

/-- `FrameMemoryIsTheHostsOutsideAFrame`: a host store to the last byte, and a PROCESS for the second clause. -/
theorem witness_hostMemory :
    caseB.phase = .idle ∧ Event.hostStore 0xFFFFFFFF 7 ≠ .reset ∧
    (∃ t, deliver (.hostStore 0xFFFFFFFF 7) caseB = .next t ∧
      readByte t.mem 0xFFFFFFFF ≠ readByte caseB.mem 0xFFFFFFFF) ∧
    (∀ a, Event.host 32 0x100400000002 ≠ .hostLoad a) ∧ (∀ a v, Event.host 32 0x100400000002 ≠ .hostStore a v) ∧
    ∃ t, deliver (.host 32 0x100400000002) caseB = .next t :=
  ⟨rfl, by decide, ⟨_, rfl, by decide⟩, fun _ => by simp, fun _ _ => by simp, _, rfl⟩

/-- `HostStoreStoresItsByte`: idle, and in a frame. -/
theorem witness_hostStore : caseB.mem.wf = true ∧ caseB.phase = .idle ∧ runB.mem.wf = true ∧ runB.phase ≠ .idle := by
  decide

/-- `PaletteRomIsReadOnly`. -/
theorem witness_rom : ∃ t, step { caseB with buildBusy := true } = .next t := ⟨_, rfl⟩

/-- `BuilderFillsTheShadowBank`: idle, and a build for each preset. -/
theorem witness_builder :
    caseB.buildBusy = false ∧
    (({ caseB with buildBusy := true } : State).buildBusy = true ∧
      ({ caseB with buildBusy := true } : State).buildPreset = some .jet) ∧
    (({ caseB with buildBusy := true, buildPreset := some .none } : State).buildBusy = true ∧
      ({ caseB with buildBusy := true, buildPreset := some .none } : State).buildPreset = some .none) :=
  ⟨rfl, ⟨rfl, rfl⟩, rfl, rfl⟩

/-- `PixelWorkWaitsForTheBuild`. -/
theorem witness_fence :
    (let s : State := { fencedB with buildBusy := true }
     s.phase = .fenced ∧ s.buildBusy = true ∧ Event.publish ≠ .reset ∧ ∃ t, deliver .publish s = .next t) :=
  ⟨rfl, rfl, by decide, _, rfl⟩

/-- `TheActiveBankIsWrittenAtPublicationOnly`: both presets, and a publication that changes the bank. -/
theorem witness_publication :
    (fencedB.phase = .fenced ∧ fencedB.buildBusy = false ∧ fencedB.frame.preset = .jet) ∧
    (latchFrame { caseB with preset := .none }).frame.preset = .none ∧ Event.publish ≠ .reset ∧
    ∃ t, deliver .publish fencedB = .next t ∧ t.lutActive ≠ fencedB.lutActive :=
  ⟨⟨rfl, rfl, rfl⟩, rfl, by decide, _, rfl, fun h => absurd (congrArg (lookup · 0) h) (by decide)⟩

/-- `TableInvariantIsKept`, in a state whose next step publishes the table. -/
theorem witness_tableInv : TableInv fencedB ∧ ∃ t, step fencedB = .next t :=
  ⟨⟨rfl, fun h => absurd h (by decide)⟩, _, rfl⟩

/-- `JetBuildEstablishesTheTableInvariant`, from a shadow bank that holds no palette: idle, and while the pixels of a NONE
frame are being processed. -/
theorem witness_jetBuild :
    (let s : State := { caseB with buildBusy := true, lutShadow := blackLut }
     s.buildBusy = true ∧ s.buildPreset = some .jet ∧ (∃ t, deliver .build s = .next t) ∧
     ¬ (s.phase = .running ∧ s.frame.preset = .jet ∧ s.lutActive ≠ s.jetRom)) ∧
    (let s : State := { doneOne with buildBusy := true, buildPreset := some .jet, lutShadow := blackLut }
     s.buildBusy = true ∧ s.buildPreset = some .jet ∧ (∃ t, deliver .build s = .next t) ∧
     ¬ (s.phase = .running ∧ s.frame.preset = .jet ∧ s.lutActive ≠ s.jetRom)) :=
  ⟨⟨rfl, rfl, ⟨_, rfl⟩, fun h => absurd h.1 (by decide)⟩, rfl, rfl, ⟨_, rfl⟩, fun h => absurd h.2.1 (by decide)⟩

/-- `NonePassesTheIntensityThrough`, at both ends of both formats. -/
theorem witness_none :
    (latch .none .gray8 0 0).preset = .none ∧ 0 ≤ (latch .none .gray8 0 0).inFmt.maxv ∧
    255 ≤ (latch .none .gray8 0 0).inFmt.maxv ∧ 65535 ≤ (latch .none .gray16le 0 0).inFmt.maxv := by
  decide

/-- `NormalizerHasTheUnsignedForm`: each case on each side of its boundary, `n` = 100 and `g` = 200, then `g` = `n`. -/
theorem witness_normalizer :
    (let f := latch .jet .gray8 100 200
     min f.near.toNat f.inFmt.maxv < min f.far.toNat f.inFmt.maxv ∧ 100 ≤ min f.near.toNat f.inFmt.maxv ∧
       min f.far.toNat f.inFmt.maxv ≤ 200 ∧ min f.near.toNat f.inFmt.maxv < 101 ∧
       199 < min f.far.toNat f.inFmt.maxv) ∧
    (let f := latch .jet .gray8 300 0xFFFF
     min f.far.toNat f.inFmt.maxv ≤ min f.near.toNat f.inFmt.maxv) := by
  decide

/-- `NormalizerIsMonotone`. -/
theorem witness_monotone :
    (latch .jet .gray8 100 200).effNear < (latch .jet .gray8 100 200).effFar ∧ 99 ≤ 201 ∧
    99 < (latch .jet .gray8 100 200).effNear ∧ (latch .jet .gray8 100 200).effFar < 201 := by
  decide

/-- The latched frame of base case B is as the engine needs it. -/
theorem runB_ok : runB.frame.Ok := by constructor <;> decide

/-- `PixelStepIssuesThePixel`: the last pixel of the frame, one past its last column and row, and a pixel already done. -/
theorem witness_pixelStep :
    runB.phase = .running ∧ runB.frame.Ok ∧ runB.raced = [] ∧
    (3 < runB.frame.width.toNat ∧ 0 < runB.frame.height.toNat ∧ (3, 0) ∉ runB.donePx) ∧
    runB.frame.width.toNat ≤ 4 ∧ runB.frame.height.toNat ≤ 1 ∧
    (3, 0) ∈ ({ runB with donePx := [(3, 0)] } : State).donePx :=
  ⟨rfl, runB_ok, rfl, by decide, by decide, by decide, by decide⟩

/-- `CompletedWriteStoresItsByte`: the first and the last write in flight. -/
theorem witness_complete :
    (flightOne.phase = .running ∨ flightOne.phase = .aborting) ∧ flightOne.mem.wf = true ∧
    flightOne.inflight[0]? = some (0x2000, 90) ∧ flightOne.inflight[2]? = some (0x2002, 90) := by
  decide

/-- `PixelsDependOnLatchedValuesAndSourceOnly`: two states that differ elsewhere. -/
theorem witness_pixelsDepend :
    (let t : State := { runB with nearCut := 7, mem := (0x0FFF, 1) :: runB.mem, errCode := .busError }
     runB.frame = t.frame ∧ runB.raced = [] ∧ t.raced = [] ∧
     ∀ j < runB.frame.inFmt.bytes,
       readByte runB.mem (runB.frame.srcAddr (1, 0) + j) = readByte t.mem (runB.frame.srcAddr (1, 0) + j)) ∧
    runB.lutActive = ({ runB with nearCut := 7 } : State).lutActive :=
  ⟨by decide, rfl⟩

/-- Base case B's frame after a host store of 5 over the sample 128 of its pixel (1, 0). -/
def racedB : State := hostStoreStep 0x1001 5 runB

/-- `RacedByteIsOldOrNew`: the frame's last pixel and its raced one, with the new byte and with the old one, and the host's
store. -/
theorem witness_raced :
    racedB.phase = .running ∧ racedB.frame.Ok ∧
    (3 < racedB.frame.width.toNat ∧ 0 < racedB.frame.height.toNat ∧ (3, 0) ∉ racedB.donePx) ∧
    (1 < racedB.frame.width.toNat ∧ (1, 0) ∉ racedB.donePx) ∧
    RacedSample racedB 0x1001 [5] ∧ RacedSample racedB 0x1001 [128] ∧
    runB.phase ≠ .idle ∧ runB.mem.wf = true ∧ ∃ t, deliver (.hostStore 0x1001 5) runB = .next t :=
  ⟨rfl, runB_ok, by decide, by decide,
    ⟨rfl, fun j b h => by cases j <;> simp at h; subst h; exact .inl (by decide)⟩,
    ⟨rfl, fun j b h => by cases j <;> simp at h; subst h; exact .inr (by decide)⟩,
    by decide, by decide, _, rfl⟩

/-- A race: the pixel (1, 0) of that frame under the new sample 5 (JET[5] = (0, 0, 147)) and under the old one (S7). -/
theorem test_race :
    (match deliver (.pixel 1 0 [0] .ok) racedB with
      | .next t => t.inflight
      | .fault _ => []
      | .refused _ => []) = [(0x2003, 0), (0x2004, 0), (0x2005, 147)] ∧
    (match deliver (.pixel 1 0 [1] .ok) racedB with
      | .next t => t.inflight
      | .fault _ => []
      | .refused _ => []) = [(0x2003, 129), (0x2004, 255), (0x2005, 125)] := by
  decide

/-- `HostLoadReturnsTheByteOrAnyValue`: on each side of both ends of the destination plane [0x2000, 0x2003). -/
theorem witness_hostLoad :
    caseB.phase = .idle ∧ (0x1FFF#32).toNat < runOne.frame.dstBase.toNat ∧
    (runOne.frame.dstBase.toNat : Int) + ((runOne.frame.height.toNat : Int) - 1) * runOne.frame.dstStride.toNat
      + runOne.frame.width.toNat * runOne.frame.outFmt.bytes ≤ (0x2003#32).toNat ∧
    runOne.phase ≠ .idle ∧ runOne.frame.dstBase.toNat ≤ (0x2000#32).toNat ∧
    ((0x2002#32).toNat : Int) < runOne.frame.dstBase.toNat
      + ((runOne.frame.height.toNat : Int) - 1) * runOne.frame.dstStride.toNat
      + runOne.frame.width.toNat * runOne.frame.outFmt.bytes := by
  decide

/-- `FrameCompletesWhenAllIsWritten`: complete; a write in flight; a pixel not done. -/
theorem witness_completion :
    (doneOne.phase = .running ∧ doneOne.inflight = [] ∧
      ∀ x y, x < doneOne.frame.width.toNat → y < doneOne.frame.height.toNat → (x, y) ∈ doneOne.donePx) ∧
    (flightOne.phase = .running ∧ flightOne.inflight ≠ []) ∧
    (runOne.phase = .running ∧
      ∃ x y, x < runOne.frame.width.toNat ∧ y < runOne.frame.height.toNat ∧ (x, y) ∉ runOne.donePx) := by
  refine ⟨⟨rfl, rfl, ?_⟩, ⟨rfl, by decide⟩, rfl, 0, 0, by decide, by decide, by decide⟩
  intro x y hx hy
  have h1 : x < 1 := hx
  have h2 : y < 1 := hy
  obtain rfl : x = 0 := by omega
  obtain rfl : y = 0 := by omega
  decide

theorem runOne_ok : runOne.frame.Ok := by constructor <;> decide

/-- `BusErrorAbortsTheFrame`: an error on a read, on a write, and an abort with and without a write outstanding. -/
theorem witness_busError :
    (runOne.phase = .running ∧ runOne.frame.Ok ∧ runOne.frame.hasPixel (0, 0) = true ∧ (0, 0) ∉ runOne.donePx) ∧
    (flightOne.phase = .running ∧ flightOne.inflight[1]? = some (0x2001, 90)) ∧
    (({ flightOne with phase := .aborting } : State).phase = .aborting ∧
      ({ flightOne with phase := .aborting } : State).inflight ≠ []) ∧
    (let s : State := { doneOne with phase := .aborting }
     s.phase = .aborting ∧ s.inflight = [] ∧ s.frame.Ok ∧ s.mem.wf = true ∧ 0x2002 ∈ s.frame.dstBytes ∧
       0x2003 ∉ s.frame.dstBytes) :=
  ⟨⟨rfl, runOne_ok, by decide, by decide⟩, ⟨rfl, rfl⟩, ⟨rfl, by decide⟩, rfl, rfl, runOne_ok, by decide, by decide,
    by decide⟩

/-- `ResetInputRestoresEveryRegister`, inner hypotheses: with no frame, and with one. -/
theorem witness_reset :
    caseB.phase = .idle ∧ runOne.phase ≠ .idle ∧ runOne.frame.Ok ∧ runOne.mem.wf = true ∧
    0x2000 ∈ runOne.frame.dstBytes ∧ 0x1000 ∉ runOne.frame.dstBytes :=
  ⟨rfl, by decide, runOne_ok, by decide, by decide, by decide⟩

/-- The block's invariant, for states given by the conditions of its fields. -/
theorem caseB_inv : BlockInv caseB := by
  constructor <;> simp [caseB, State.reset, State.resetWith, Memory.wf, Config.memBytes, Config.unlistedByte]

theorem fencedB_inv : BlockInv fencedB where
  mem_wf := by decide
  context := fun _ => by decide
  frame_ok := fun _ => runB_ok
  done_nodup := by decide
  done_in_frame := by decide
  fence_fresh := fun _ => rfl
  quiet_bus := fun _ => rfl
  inflight_dst := by decide
  build_current := fun h => absurd h (by decide)
  shadow_built := fun _ _ => rfl

theorem flightOne_inv : BlockInv flightOne where
  mem_wf := by decide
  context := fun h => absurd h (by decide)
  frame_ok := fun _ => runOne_ok
  done_nodup := by decide
  done_in_frame := by decide
  fence_fresh := fun h => absurd h (by decide)
  quiet_bus := fun h => absurd h (by decide)
  inflight_dst := by decide
  build_current := fun h => absurd h (by decide)
  shadow_built := fun h => absurd h (by decide)

/-- `BlockInvariantIsKept` and `NoFaultUnderTheInvariant`: idle, at the fence, and in a frame. -/
theorem witness_blockInv :
    (BlockInv caseB ∧ ∃ t, step caseB = .next t) ∧ (BlockInv fencedB ∧ ∃ t, step fencedB = .next t) ∧
    (BlockInv flightOne ∧ ∃ t, step flightOne = .next t) :=
  ⟨⟨caseB_inv, _, rfl⟩, ⟨fencedB_inv, _, rfl⟩, flightOne_inv, _, rfl⟩

/-- `PublicationStartsTheFrame`, after a host store to the byte before the source plane. -/
theorem witness_publish :
    (let s : State := { fencedB with raced := [(0x0FFF, 7)] }
     BlockInv s ∧ s.phase = .fenced ∧ s.buildBusy = false ∧ (∀ c ∈ s.raced, s.frame.inSrcPlane c.1 = false) ∧
     (s.frame.preset = .jet → s.lutShadow = s.jetRom) ∧ ∃ t, deliver .publish s = .next t) :=
  ⟨⟨fencedB_inv.1, fencedB_inv.2, fencedB_inv.3, fencedB_inv.4, fencedB_inv.5, fencedB_inv.6, fencedB_inv.7,
    fencedB_inv.8, fencedB_inv.9, fencedB_inv.10⟩, rfl, rfl, by decide, fun _ => rfl, _, rfl⟩

/-- The progress of the frame with its pixel's bytes in flight. -/
theorem flightOne_progress : FrameProgress defaultJetRom [(0x1000, 90)] flightOne where
  running := rfl
  table := fun h => absurd h (by decide)
  start_wf := by decide
  unraced := by decide
  done := by decide
  flight := by decide
  bytes := fun _ => .inl rfl

/-- `FrameProgressIsKeptOrTheFrameIsWritten`: a byte write that completes, and a host store to the byte after the frame's
destination plane. -/
theorem witness_progress :
    (BlockInv flightOne ∧ FrameProgress defaultJetRom [(0x1000, 90)] flightOne ∧ NextEventCalm flightOne ∧
      ∃ t, step flightOne = .next t) ∧
    (let s : State := { flightOne with inputs := [.hostStore 0x2003 7] }
     BlockInv s ∧ FrameProgress defaultJetRom [(0x1000, 90)] s ∧ NextEventCalm s ∧ ∃ t, step s = .next t) := by
  refine ⟨⟨flightOne_inv, flightOne_progress, fun _ _ h => absurd h.symm (List.cons_ne_nil _ _), _, rfl⟩, ?_, ?_, ?_, _, rfl⟩
  · obtain ⟨⟩ := flightOne_inv
    constructor <;> assumption
  · obtain ⟨⟩ := flightOne_progress
    constructor <;> assumption
  · intro e rest h
    obtain ⟨rfl, -⟩ : Event.hostStore 0x2003 7 = e ∧ [] = rest := by simpa using h
    decide

/-- `EveryFrameCompletesOrAborts`. -/
theorem witness_ends : BlockInv flightOne ∧ flightOne.inputs = [] ∧ flightOne.phase ≠ .idle :=
  ⟨flightOne_inv, rfl, by decide⟩

/-- `AcceptedProcessWritesThePicture`, on base case B: with no event to come, and while the host polls `STATUS`, stores to
the byte after the destination plane and loads a byte, with a pixel out of order. -/
theorem witness_picture :
    (BlockInv caseB ∧ caseB.phase = .idle ∧ (∀ e ∈ caseB.inputs, e.watches caseB.latched = true) ∧
      ∃ t, exec .cmdProcess caseB = .next t ∧ t.phase = .fenced) ∧
    (let s : State := { caseB with
        inputs := [.publish, .host 32 0x000800000000, .hostStore 0x200C 7, .hostLoad 0x1000, .pixel 2 0 [] .ok] }
     BlockInv s ∧ s.phase = .idle ∧ (∀ e ∈ s.inputs, e.watches s.latched = true) ∧
      ∃ t, exec .cmdProcess s = .next t ∧ t.phase = .fenced) := by
  refine ⟨⟨caseB_inv, rfl, by decide, _, rfl, by decide⟩, ?_, rfl, by decide, _, rfl, by decide⟩
  obtain ⟨⟩ := caseB_inv
  constructor <;> assumption

end Sys2Proof.Tests
end

section
/-! PROOFS. The register accesses that have no meaning (20_memory.md R64): of the wrong size, which the bus refuses, and
misaligned, which the decoder tells apart by `OFF[1:0]`. -/

namespace Sys2Proof.Machine

/-- With an event still to come, a step delivers it. -/
theorem step_of_inputs_cons {s : State} {e : Event} {rest : List Event} (h : s.inputs = e :: rest) :
    step s = deliver e { s with inputs := rest } := by
  obtain ⟨e', rest', hcons, hstep⟩ | ⟨_, hnil, -⟩ | ⟨hnil, -⟩ := step_cases s
  · obtain ⟨rfl, rfl⟩ := List.cons.inj (h.symm.trans hcons)
    exact hstep
  · exact absurd (h.symm.trans hnil) (List.cons_ne_nil e rest)
  · exact absurd (h.symm.trans hnil) (List.cons_ne_nil e rest)

/-- A register access that is not 32 bits is refused, whatever its word (R64). -/
theorem hostTransaction_of_ne_32 {bits : Nat} (h : bits ≠ 32) (w : TWord) (s : State) :
    hostTransaction bits w s = .refused .registerAccessNot32Bits := by
  obtain ⟨h32, -⟩ | ⟨-, hrefused⟩ := hostTransaction_cases bits w s
  · exact absurd h32 h
  · exact hrefused

/-- The low two bits of an offset that is no multiple of 4. -/
theorem lowBits_of_misaligned {off : Offset} (h : off.toNat % 4 ≠ 0) :
    off.extractLsb' 0 2 = 1#2 ∨ off.extractLsb' 0 2 = 2#2 ∨ off.extractLsb' 0 2 = 3#2 := by
  have hlow : (off.extractLsb' 0 2).toNat = off.toNat % 4 := by simp [BitVec.extractLsb'_toNat]
  simp only [← BitVec.toNat_inj, hlow, BitVec.toNat_ofNat]
  omega

/-- An offset that is no multiple of 4 decodes to one of the three misaligned rows (30_encoding.md R79). -/
theorem decodeFields_of_misaligned {off : Offset} (h : off.toNat % 4 ≠ 0) (we : Bool) (d : Word) :
    decodeFields we off d = .misaligned01 we (off.extractLsb' 2 10) d ∨
    decodeFields we off d = .misaligned10 we (off.extractLsb' 2 10) d ∨
    decodeFields we off d = .misaligned11 we (off.extractLsb' 2 10) d := by
  obtain h01 | h10 | h11 := lowBits_of_misaligned h
  · exact .inl (by simp [decodeFields, h01])
  · exact .inr (.inl (by simp [decodeFields, h10]))
  · exact .inr (.inr (by simp [decodeFields, h11]))

/-- A register access at an offset that is no multiple of 4 is refused, read or write (R64). -/
theorem exec_decodeFields_of_misaligned {off : Offset} (h : off.toNat % 4 ≠ 0) (we : Bool) (d : Word) (s : State) :
    exec (decodeFields we off d) s = .refused .misalignedRegisterAccess := by
  obtain h01 | h10 | h11 := decodeFields_of_misaligned h we d
  · rw [h01]; rfl
  · rw [h10]; rfl
  · rw [h11]; rfl

/-- Settles O5: the bus refuses the wrong size; the decoder sends every misaligned offset to a row that is refused. -/
theorem accessesWithoutMeaningAreRefused : Obligations.AccessesWithoutMeaningAreRefused := by
  refine ⟨fun s bits t rest hin hbits => ?wrongSize, fun we off d s hoff => ?misaligned, fun we hi d s => ?rows⟩
  case wrongSize =>
    rw [step_of_inputs_cons hin]
    exact hostTransaction_of_ne_32 hbits t _
  case misaligned =>
    rw [decode_ofFields]
    exact exec_decodeFields_of_misaligned hoff we d s
  case rows =>
    exact ⟨rfl, rfl, rfl⟩

end Sys2Proof.Machine
end

section
/-! PROOFS. The write of `PRESET` (40_configuration.md R89, R101), by what the written code names (30_encoding.md R83). -/

namespace Sys2Proof.Machine

/-- The word of a write at `PRESET`'s offset (30_encoding.md R80). -/
theorem decode_wrPreset (d : Word) : decode (TWord.ofFields true 0x014#12 d) = .wrPreset d :=
  (decode_ofFields true 0x014#12 d).trans rfl

theorem exec_wrPreset (d : Word) (s : State) : exec (.wrPreset d) s = execWrPreset d s := rfl

/-- A known preset code is stored and triggers a rebuild for the preset it names (R89, R96). -/
theorem execWrPreset_of_known {d : Word} {p : Preset} (h : Preset.ofCode d = some p) (s : State) :
    execWrPreset d s = .next { s with preset := p, buildPreset := some p, buildBusy := true } := by
  obtain ⟨q, hq, hexec⟩ | ⟨hnone, -⟩ := execWrPreset_cases d s
  · obtain rfl : q = p := Option.some.inj (hq.symm.trans h)
    exact hexec
  · exact absurd (hnone.symm.trans h) (by simp)

/-- An unknown preset code is recorded as an error and changes nothing else (R89, R101). -/
theorem execWrPreset_of_unknown {d : Word} (h : Preset.ofCode d = none) (s : State) :
    execWrPreset d s = .next { s with errCode := .invalidConfiguration, intErr := true } := by
  obtain ⟨p, hp, -⟩ | ⟨-, hexec⟩ := execWrPreset_cases d s
  · exact absurd (hp.symm.trans h) (by simp)
  · rw [hexec, raiseError_eq]

/-- Settles O14, by the code that the whole 32 bits are: `NONE`, `JET`, or unknown. -/
theorem presetWriteStoresOrRaises : Obligations.PresetWriteStoresOrRaises := by
  intro d s
  refine ⟨decode_wrPreset d, ?_⟩
  rw [exec_wrPreset]
  obtain ⟨rfl, hnone⟩ | ⟨rfl, hjet⟩ | ⟨hge, hunknown⟩ := Preset.ofCode_cases d
  · exact execWrPreset_of_known hnone s
  · exact execWrPreset_of_known hjet s
  · have hne0 : d.toNat ≠ 0 := by omega
    have hne1 : d.toNat ≠ 1 := by omega
    simp only [execWrPreset_of_unknown hunknown, if_neg hne0, if_neg hne1]

end Sys2Proof.Machine
end

section
/-! PROOFS. The active table bank (40_configuration.md R99): what the publication at the fence writes to it, and that every
other step of the host and of the block's agents leaves it as it was. -/

namespace Sys2Proof.Machine

/-! The publication -/

/-- At the fence, with the build over, a JET frame's table is published as its pixel work starts (R99). -/
theorem publishStep_of_jet {s : State} (hphase : s.phase = .fenced) (hbuilt : s.buildBusy = false)
    (hjet : s.frame.preset = .jet) : publishStep s = { s with phase := .running, lutActive := s.lutShadow } := by
  obtain ⟨hnot, -⟩ | ⟨-, -, -, hstep⟩ | ⟨-, -, hnone, -⟩ := publishStep_cases s
  · exact absurd ⟨hphase, hbuilt⟩ hnot
  · exact hstep
  · exact absurd (hjet.symm.trans hnone) (by decide)

/-- At the fence, with the build over, a NONE frame starts its pixel work and publishes no table (R99). -/
theorem publishStep_of_none {s : State} (hphase : s.phase = .fenced) (hbuilt : s.buildBusy = false)
    (hnone : s.frame.preset = .none) : publishStep s = { s with phase := .running } := by
  obtain ⟨hnot, -⟩ | ⟨-, -, hjet, -⟩ | ⟨-, -, -, hstep⟩ := publishStep_cases s
  · exact absurd ⟨hphase, hbuilt⟩ hnot
  · exact absurd (hnone.symm.trans hjet) (by decide)
  · exact hstep

/-- A publication that changes the active bank is a JET frame's, at the fence with the build over (R98, R99). -/
theorem publishStep_lutActive_ne {s : State} (h : (publishStep s).lutActive ≠ s.lutActive) :
    s.phase = .fenced ∧ s.buildBusy = false ∧ s.frame.preset = .jet := by
  obtain ⟨-, hstep⟩ | ⟨hphase, hbuilt, hjet, -⟩ | ⟨-, -, -, hstep⟩ := publishStep_cases s
  · exact absurd (congrArg State.lutActive hstep) h
  · exact ⟨hphase, hbuilt, hjet⟩
  · exact absurd (congrArg State.lutActive hstep) h

/-! Every other step -/

/-- No register transaction writes the active bank, not even a rebuild's trigger (R96, R99). -/
theorem exec_lutActive {i : Instr} {s t : State} (h : exec i s = .next t) : t.lutActive = s.lutActive := by
  obtain hreg | ⟨_, _, -, -, -, rfl⟩ | ⟨-, -, rfl⟩ | ⟨_, _, _, rfl⟩ := exec_next_cases i s t h
  · rw [hreg]
  · exact storeContext_lutActive ..
  · exact latchFrame_lutActive s
  · exact triggerRebuild_lutActive _

theorem hostTransaction_lutActive {bits : Nat} {w : TWord} {s t : State} (h : hostTransaction bits w s = .next t) :
    t.lutActive = s.lutActive := by
  obtain ⟨-, hexec⟩ | ⟨-, hrefused⟩ := hostTransaction_cases bits w s
  · exact exec_lutActive (hexec.symm.trans h)
  · cases hrefused.symm.trans h

@[simp] theorem hostLoadStep_lutActive (a : Word) (s : State) : (hostLoadStep a s).lutActive = s.lutActive := by
  obtain hstep | hstep := hostLoadStep_cases a s
  · rw [hstep]
  · rw [hstep]

/-- A build fills the shadow bank, never the active one (R93, R97). -/
@[simp] theorem buildStep_lutActive (s : State) : (buildStep s).lutActive = s.lutActive := by
  obtain ⟨-, hstep⟩ | ⟨-, hstep⟩ := buildStep_cases s
  · rw [hstep]
  · rw [hstep]

/-- The active bank is never written while a pixel is being processed (R99). -/
theorem pixelStep_lutActive {p : Pixel} {picks : List Nat} {reply : BusReply} {s t : State}
    (h : pixelStep p picks reply s = .next t) : t.lutActive = s.lutActive := by
  obtain ⟨-, hidle⟩ | ⟨-, -, hfault⟩ | ⟨-, -, habort⟩ | ⟨-, -, hissue⟩ := pixelStep_cases p picks reply s
  · cases hidle.symm.trans h; rfl
  · cases hfault.symm.trans h
  · cases habort.symm.trans h; rfl
  · cases hissue.symm.trans h; rfl

@[simp] theorem completeStep_lutActive (k : Nat) (reply : BusReply) (s : State) :
    (completeStep k reply s).lutActive = s.lutActive := by
  obtain ⟨hstep, -⟩ | ⟨_, -, -, -, hstep⟩ | ⟨_, -, -, -, hstep⟩ := completeStep_cases k reply s
  · rw [hstep]
  · rw [hstep]
  · rw [hstep]

@[simp] theorem finishStep_lutActive (s : State) : (finishStep s).lutActive = s.lutActive := by
  obtain hstep | ⟨-, -, -, hstep⟩ | ⟨-, -, hstep⟩ := finishStep_cases s
  · rw [hstep]
  · rw [hstep, completeFrame_lutActive]
  · rw [hstep, abortFrame_eq]

/-- Every event but publication and reset leaves the active bank as it was (R99). -/
theorem deliver_lutActive {e : Event} {s t : State} (h : deliver e s = .next t) (hpublish : e ≠ .publish)
    (hreset : e ≠ .reset) : t.lutActive = s.lutActive := by
  cases e with
  | host bits word => exact hostTransaction_lutActive h
  | hostStore addr value => cases h; exact hostStoreStep_lutActive addr value s
  | hostLoad addr => cases h; exact hostLoadStep_lutActive addr s
  | build => cases h; exact buildStep_lutActive s
  | publish => exact absurd rfl hpublish
  | pixel x y picks reply => exact pixelStep_lutActive h
  | complete k reply => cases h; exact completeStep_lutActive k reply s
  | finish => cases h; exact finishStep_lutActive s
  | reset => exact absurd rfl hreset

/-- Settles O36: publication by the latched preset; a changed active bank leaves publication as the only event, and of a
publication only a JET frame's. -/
theorem theActiveBankIsWrittenAtPublicationOnly : Obligations.TheActiveBankIsWrittenAtPublicationOnly := by
  refine ⟨fun s hphase hbuilt => ⟨fun hjet => ?jet, fun hnone => ?none⟩, fun e s t h hreset hne => ?only⟩
  case jet => exact congrArg Host.Outcome.next (publishStep_of_jet hphase hbuilt hjet)
  case none => exact congrArg Host.Outcome.next (publishStep_of_none hphase hbuilt hnone)
  case only =>
    obtain rfl : e = .publish := by
      by_contra hpublish
      exact hne (deliver_lutActive h hpublish hreset)
    cases h
    exact ⟨rfl, publishStep_lutActive_ne hne⟩

end Sys2Proof.Machine
end

section
/-! PROOFS. The writes of the cuts (40_configuration.md R90, R91): any value is stored (R92), and the table is rebuilt for
the preset in force (R96). -/

namespace Sys2Proof.Machine

/-- The word of a write at `NEAR_CUT`'s offset (30_encoding.md R80). -/
theorem decode_wrNearCut (d : Word) : decode (TWord.ofFields true 0x018#12 d) = .wrNearCut d :=
  (decode_ofFields true 0x018#12 d).trans rfl

/-- The word of a write at `FAR_CUT`'s offset (30_encoding.md R80). -/
theorem decode_wrFarCut (d : Word) : decode (TWord.ofFields true 0x01C#12 d) = .wrFarCut d :=
  (decode_ofFields true 0x01C#12 d).trans rfl

/-- The low half of a word, by its number (30_encoding.md R81). -/
theorem lowHalf_eq_ofNat (d : Word) : lowHalf d = BitVec.ofNat 16 (d.toNat % 65536) :=
  BitVec.eq_of_toNat_eq (by simp)

theorem exec_wrNearCut (d : Word) (s : State) :
    exec (.wrNearCut d) s =
      .next { s with nearCut := lowHalf d, buildPreset := some s.preset, buildBusy := true } := rfl

theorem exec_wrFarCut (d : Word) (s : State) :
    exec (.wrFarCut d) s =
      .next { s with farCut := lowHalf d, buildPreset := some s.preset, buildBusy := true } := rfl

/-- Settles O13, one cut at a time: the word's row, then what it stores. -/
theorem cutWritesStoreAndTriggerARebuild : Obligations.CutWritesStoreAndTriggerARebuild := by
  refine ⟨fun d s => ⟨decode_wrNearCut d, ?near⟩, fun d s => ⟨decode_wrFarCut d, ?far⟩⟩
  case near => rw [exec_wrNearCut, lowHalf_eq_ofNat]
  case far => rw [exec_wrFarCut, lowHalf_eq_ofNat]

end Sys2Proof.Machine
end

section
/-! PROOFS. The default palette ROM (40_configuration.md R102): each of its channels is the clamped ramp, for every index. -/

namespace Sys2Proof.Machine

/-- A value clamped to the range of a byte is a byte's number (00_scope.md R13). -/
theorem toNat_ofInt_clamp (x : Int) : ((BitVec.ofInt 8 (clamp x 0 255)).toNat : Int) = max 0 (min 255 x) := by
  rw [BitVec.toNat_ofInt, clamp]
  omega

/-- A channel of the default palette, on unbounded integers (R102). -/
theorem jetChannel_toNat (k i : Nat) :
    ((jetChannel k i).toNat : Int) = max 0 (min 255 (382 - |4 * (i : Int) - 255 * k|)) := by
  rw [jetChannel, toNat_ofInt_clamp, Int.natCast_natAbs]

/-- The default palette ROM holds its entries in the order of their indices (R102). -/
theorem lookup_defaultJetRom (i : Byte) : lookup defaultJetRom i = jetEntry i.toNat := by
  simp [lookup, defaultJetRom]

/-- Settles O33: the ROM at reset is the default one, and its three channels are the ramps of `k` = 3, 2, 1. -/
theorem defaultPaletteIsTheJetCurve : Obligations.DefaultPaletteIsTheJetCurve := by
  intro i
  have hrom : State.reset.jetRom = defaultJetRom := rfl
  rw [hrom, lookup_defaultJetRom]
  exact ⟨jetChannel_toNat 3 i.toNat, jetChannel_toNat 2 i.toNat, jetChannel_toNat 1 i.toNat⟩

end Sys2Proof.Machine
end

section
/-! PROOFS. NEGOTIATE (41_negotiation_dispatch.md R112): what it does in each state, with its conditions as numbers and the
formats by their numbers in R107 and R108. -/

namespace Sys2Proof.Machine

/-! The formats by their numbers -/

theorem InFormat.code_toNat (i : InFormat) : i.code.toNat = i.number := by cases i <;> rfl

theorem OutFormat.code_toNat (o : OutFormat) : o.code.toNat = o.number := by cases o <;> rfl

/-- A supported input code is the number of the format it names (R107). -/
theorem InFormat.number_of_ofCode {c : FmtCode} {i : InFormat} (h : InFormat.ofCode c = some i) :
    i.number = c.toNat := by
  rw [← InFormat.code_toNat, InFormat.code_of_ofCode c i h]

/-- A supported output code is the number of the format it names (R108). -/
theorem OutFormat.number_of_ofCode {c : FmtCode} {o : OutFormat} (h : OutFormat.ofCode c = some o) :
    o.number = c.toNat := by
  rw [← OutFormat.code_toNat, OutFormat.code_of_ofCode c o h]

/-- An input format is known by its number: the number is its code's, and the code names it (R107). -/
theorem InFormat.number_injective : Function.Injective InFormat.number := fun i j h => by
  have hcode : i.code = j.code := BitVec.eq_of_toNat_eq (by rw [InFormat.code_toNat, InFormat.code_toNat, h])
  exact Option.some.inj (by rw [← InFormat.ofCode_code i, hcode, InFormat.ofCode_code])

/-- An output format is known by its number: the number is its code's, and the code names it (R108). -/
theorem OutFormat.number_injective : Function.Injective OutFormat.number := fun o p h => by
  have hcode : o.code = p.code := BitVec.eq_of_toNat_eq (by rw [OutFormat.code_toNat, OutFormat.code_toNat, h])
  exact Option.some.inj (by rw [← OutFormat.ofCode_code o, hcode, OutFormat.ofCode_code])

/-! The command -/

/-- The word of the command NEGOTIATE (30_encoding.md R82). -/
theorem isCommand_cmdNegotiate : IsCommand .cmdNegotiate 1 :=
  (decode_ofFields true 0x004#12 1).trans rfl

theorem exec_cmdNegotiate (s : State) : exec .cmdNegotiate s = execCmdNegotiate s := rfl

/-- NEGOTIATE's failing condition on the staged codes and sizes, as numbers (R112). -/
theorem negotiateFails_iff (s : State) :
    NegotiateFails s ↔ InFormat.ofCode s.fmt.inFmt = none ∨ OutFormat.ofCode s.fmt.outFmt = none ∨
      s.geom.width = 0 ∨ s.geom.height = 0 := by
  rw [InFormat.ofCode_eq_none, OutFormat.ofCode_eq_none, ← BitVec.toNat_inj, ← BitVec.toNat_inj]
  exact Iff.rfl

/-- NEGOTIATE is dropped while busy (43_control.md R149). -/
theorem execCmdNegotiate_of_busy {s : State} (hbusy : s.phase ≠ .idle) :
    execCmdNegotiate s = .next { s with ovr := true } := by
  obtain ⟨-, hdrop⟩ | ⟨hidle, -, -⟩ | ⟨_, _, hidle, -⟩ := execCmdNegotiate_cases s
  · rw [hdrop, dropCommand_eq]
  · exact absurd ((busy_false_iff s).mp hidle) hbusy
  · exact absurd ((busy_false_iff s).mp hidle) hbusy

/-- An idle NEGOTIATE that fails records `UnsupportedFormat` and leaves the context (R112). -/
theorem execCmdNegotiate_of_fails {s : State} (hidle : s.phase = .idle) (hfails : NegotiateFails s) :
    execCmdNegotiate s = .next { s with errCode := .unsupportedFormat, intErr := true } := by
  obtain ⟨hbusy, -⟩ | ⟨-, -, hraise⟩ | ⟨i, o, -, hin, hout, hwidth, hheight, -⟩ := execCmdNegotiate_cases s
  · exact absurd hidle ((busy_iff s).mp hbusy)
  · rw [hraise, raiseError_eq]
  · simp only [negotiateFails_iff, hin, hout, hwidth, hheight, reduceCtorEq, or_self] at hfails

/-- An idle NEGOTIATE that does not fail stores the formats with the staged numbers and the staged geometry (R112). -/
theorem execCmdNegotiate_of_not_fails {s : State} (hidle : s.phase = .idle) (hpasses : ¬ NegotiateFails s) :
    ∃ i o, execCmdNegotiate s = .next (storeContext i o s.geom s) ∧
      i.number = s.fmt.inFmt.toNat ∧ o.number = s.fmt.outFmt.toNat := by
  obtain ⟨hbusy, -⟩ | ⟨-, hfails, -⟩ | ⟨i, o, -, hin, hout, -, -, hstore⟩ := execCmdNegotiate_cases s
  · exact absurd hidle ((busy_iff s).mp hbusy)
  · exact absurd ((negotiateFails_iff s).mpr hfails) hpasses
  · exact ⟨i, o, hstore, InFormat.number_of_ofCode hin, OutFormat.number_of_ofCode hout⟩

/-- Settles O21: busy, or idle by whether NEGOTIATE fails; the stored formats are known by the staged numbers. -/
theorem negotiateStoresTheContextOrRaises : Obligations.NegotiateStoresTheContextOrRaises := by
  refine ⟨isCommand_cmdNegotiate, fun s hbusy => ?busy, fun s hidle => ⟨fun hfails => ?fails, fun hranges => ?stores⟩⟩
  case busy => rw [exec_cmdNegotiate, execCmdNegotiate_of_busy hbusy]
  case fails => rw [exec_cmdNegotiate, execCmdNegotiate_of_fails hidle hfails]
  case stores =>
    have hpasses : ¬ NegotiateFails s := by unfold NegotiateFails; omega
    obtain ⟨i, o, hstore, hin, hout⟩ := execCmdNegotiate_of_not_fails hidle hpasses
    exact ⟨i, o, hstore,
      fun h => InFormat.number_injective (hin.trans h), fun h => InFormat.number_injective (hin.trans h),
      fun h => OutFormat.number_injective (hout.trans h), fun h => OutFormat.number_injective (hout.trans h),
      fun h => OutFormat.number_injective (hout.trans h), fun h => OutFormat.number_injective (hout.trans h)⟩

end Sys2Proof.Machine
end

section
/-! PROOFS. The writes that stage a format and a geometry (41_negotiation_dispatch.md R110, R111), with the fields of the
stored word as numbers (30_encoding.md R81). -/

namespace Sys2Proof.Machine

/-- The word of a write at `FMT`'s offset (30_encoding.md R80). -/
theorem decode_wrFmt (d : Word) : decode (TWord.ofFields true 0x020#12 d) = .wrFmt d :=
  (decode_ofFields true 0x020#12 d).trans rfl

/-- The word of a write at `GEOM`'s offset (30_encoding.md R80). -/
theorem decode_wrGeom (d : Word) : decode (TWord.ofFields true 0x024#12 d) = .wrGeom d :=
  (decode_ofFields true 0x024#12 d).trans rfl

/-- The fields of a format word, by its number: `IN_FMT` in bits 3:0 and `OUT_FMT` in bits 11:8 (R81). -/
theorem fmtOf_eq_ofNat (d : Word) : fmtOf d = ⟨BitVec.ofNat 4 (d.toNat % 16), BitVec.ofNat 4 (d.toNat / 256 % 16)⟩ := by
  have hin : (fmtOf d).inFmt = BitVec.ofNat 4 (d.toNat % 16) := BitVec.eq_of_toNat_eq (by simp)
  have hout : (fmtOf d).outFmt = BitVec.ofNat 4 (d.toNat / 256 % 16) := BitVec.eq_of_toNat_eq (by simp)
  rw [← hin, ← hout]

/-- The high half of a word, by its number (R81). -/
theorem highHalf_eq_ofNat (d : Word) : highHalf d = BitVec.ofNat 16 (d.toNat / 65536) := by
  have hlt : d.toNat / 65536 < 65536 := by omega
  exact BitVec.eq_of_toNat_eq (by simp [Nat.mod_eq_of_lt hlt])

/-- The fields of a geometry word, by its number: `WIDTH` below `HEIGHT` (R81). -/
theorem geomOf_eq_ofNat (d : Word) :
    geomOf d = ⟨BitVec.ofNat 16 (d.toNat % 65536), BitVec.ofNat 16 (d.toNat / 65536)⟩ := by
  rw [← lowHalf_eq_ofNat, ← highHalf_eq_ofNat, geomOf]

theorem exec_wrFmt (d : Word) (s : State) : exec (.wrFmt d) s = .next { s with fmt := fmtOf d } := rfl

theorem exec_wrGeom (d : Word) (s : State) : exec (.wrGeom d) s = .next { s with geom := geomOf d } := rfl

/-- Settles O11, one staging register at a time: the word's row, then the fields it stores. -/
theorem stagingWritesStoreTheirFields : Obligations.StagingWritesStoreTheirFields := by
  refine ⟨fun d s => ⟨decode_wrFmt d, ?fmt⟩, fun d s => ⟨decode_wrGeom d, ?geom⟩⟩
  case fmt => rw [exec_wrFmt, fmtOf_eq_ofNat]
  case geom => rw [exec_wrGeom, geomOf_eq_ofNat]

end Sys2Proof.Machine
end

section
/-! PROOFS. PROCESS (42_frame_transform.md R125, R126): the chain of tests `checkFrame` makes decides
the list of conditions `processChecks` states, and with it what PROCESS does. -/

namespace Sys2Proof.Machine

/-! A chain of tests against a list of conditions -/

theorem not_firstFailing_nil (e : ErrorCode) : ¬ FirstFailing [] e := by
  rintro ⟨before, c, after, hsplit, -⟩
  exact List.append_ne_nil_of_right_ne_nil before (List.cons_ne_nil c after) hsplit.symm

/-- The first failing condition is the list's head, or else the first of its tail. -/
theorem firstFailing_cons (c : Prop × ErrorCode) (cs : List (Prop × ErrorCode)) (e : ErrorCode) :
    FirstFailing (c :: cs) e ↔ c.1 ∧ c.2 = e ∨ ¬ c.1 ∧ FirstFailing cs e := by
  constructor
  · rintro ⟨before, b, after, hsplit, hbefore, hfails, rfl⟩
    cases before with
    | nil =>
      obtain ⟨rfl, -⟩ := List.cons.inj hsplit
      exact .inl ⟨hfails, rfl⟩
    | cons a before =>
      obtain ⟨rfl, htail⟩ := List.cons.inj hsplit
      exact .inr ⟨hbefore c List.mem_cons_self,
        before, b, after, htail, fun x hx => hbefore x (List.mem_cons_of_mem c hx), hfails, rfl⟩
  · rintro (⟨hfails, rfl⟩ | ⟨hpasses, before, b, after, rfl, hbefore, hfails, rfl⟩)
    · exact ⟨[], c, cs, rfl, by simp, hfails, rfl⟩
    · exact ⟨c :: before, b, after, rfl, List.forall_mem_cons.mpr ⟨hpasses, hbefore⟩, hfails, rfl⟩

theorem noneFails_cons (c : Prop × ErrorCode) (cs : List (Prop × ErrorCode)) :
    NoneFails (c :: cs) ↔ ¬ c.1 ∧ NoneFails cs := List.forall_mem_cons

/-- `r` is the outcome of testing the conditions of `checks` in order: the error of the first that holds, or none. -/
structure DecidesChecks (r : Option ErrorCode) (checks : List (Prop × ErrorCode)) : Prop where
  some_iff : ∀ e, r = some e ↔ FirstFailing checks e
  none_iff : r = none ↔ NoneFails checks

theorem DecidesChecks.nil : DecidesChecks none [] where
  some_iff e := by simp [not_firstFailing_nil]
  none_iff := by simp [NoneFails]

/-- One more test in front of a chain decides one more condition in front of the list. -/
theorem DecidesChecks.ite {p q : Prop} [Decidable p] {r : Option ErrorCode} {checks : List (Prop × ErrorCode)}
    (hpq : p ↔ q) (e : ErrorCode) (hrest : DecidesChecks r checks) :
    DecidesChecks (if p then some e else r) ((q, e) :: checks) := by
  by_cases hp : p
  · have hq := hpq.mp hp
    exact ⟨fun e' => by simp [firstFailing_cons, hp, hq], by simp [noneFails_cons, hp, hq]⟩
  · have hq := mt hpq.mpr hp
    exact ⟨fun e' => by simp [firstFailing_cons, hp, hq, hrest.some_iff],
      by simp [noneFails_cons, hp, hq, hrest.none_iff]⟩

/-! The seven tests -/

theorem word_eq_zero_iff (w : Word) : w = 0 ↔ w.toNat = 0 := BitVec.toNat_inj.symm

theorem ne_inCode_iff (c : FmtCode) (i : InFormat) : c ≠ i.code ↔ c.toNat ≠ i.number := by
  rw [← InFormat.code_toNat, Ne, ← BitVec.toNat_inj]

theorem ne_outCode_iff (c : FmtCode) (o : OutFormat) : c ≠ o.code ↔ c.toNat ≠ o.number := by
  rw [← OutFormat.code_toNat, Ne, ← BitVec.toNat_inj]

/-- Two byte ranges that start at an address meet where some address lies in both (R125 check 7). -/
theorem rangesMeet_iff (a b : Nat) (aEnd bEnd : Int) :
    rangesMeet a aEnd b bEnd = true ↔ ∃ x : Nat, (a ≤ x ∧ x < aEnd) ∧ (b ≤ x ∧ x < bEnd) := by
  rw [rangesMeet, decide_eq_true_iff]
  constructor
  · intro hmeet
    exact ⟨max a b, by omega⟩
  · rintro ⟨x, hx⟩
    omega

/-- `check_frame()` decides the seven conditions of R125, in their order. -/
theorem checkFrame_decides (s : State) : DecidesChecks (checkFrame s) (processChecks s) :=
  .ite Iff.rfl _ <|
  .ite (or_congr (word_eq_zero_iff _) (word_eq_zero_iff _)) _ <|
  .ite (or_congr (ne_inCode_iff _ _) (ne_outCode_iff _ _)) _ <|
  .ite Iff.rfl _ <|
  .ite (or_congr (by norm_cast) (by norm_cast)) _ <|
  .ite Iff.rfl _ <|
  .ite (rangesMeet_iff _ _ _ _) _ .nil

/-! The command -/

/-- The word of the command PROCESS (30_encoding.md R82). -/
theorem isCommand_cmdProcess : IsCommand .cmdProcess 2 :=
  (decode_ofFields true 0x004#12 2).trans rfl

theorem exec_cmdProcess (s : State) : exec .cmdProcess s = execCmdProcess s := rfl

/-- An idle PROCESS whose check fails records the check's error and nothing else (R125). -/
theorem execCmdProcess_of_fails {s : State} {e : ErrorCode} (hidle : s.phase = .idle) (hcheck : checkFrame s = some e) :
    execCmdProcess s = .next { s with errCode := e, intErr := true } := by
  obtain ⟨hbusy, -⟩ | ⟨e', -, hcheck', hraise⟩ | ⟨-, hnone, -⟩ := execCmdProcess_cases s
  · exact absurd hidle ((busy_iff s).mp hbusy)
  · obtain rfl : e' = e := Option.some.inj (hcheck'.symm.trans hcheck)
    rw [hraise, raiseError_eq]
  · cases hnone.symm.trans hcheck

/-- An idle PROCESS whose checks all pass accepts the frame (R126). -/
theorem execCmdProcess_of_passes {s : State} (hidle : s.phase = .idle) (hcheck : checkFrame s = none) :
    execCmdProcess s = .next (latchFrame s) := by
  obtain ⟨hbusy, -⟩ | ⟨e, -, hsome, -⟩ | ⟨-, -, haccept⟩ := execCmdProcess_cases s
  · exact absurd hidle ((busy_iff s).mp hbusy)
  · cases hsome.symm.trans hcheck
  · exact haccept

/-- Settles O22: `checkFrame` decides the conditions, so its outcome is known from the first that fails, or from none
failing. -/
theorem processReportsTheFirstFailingCheckOrLatches : Obligations.ProcessReportsTheFirstFailingCheckOrLatches := by
  refine ⟨isCommand_cmdProcess, fun s hidle => ⟨fun e hfirst => ?fails, fun hnone => ?accepts⟩⟩
  case fails => exact execCmdProcess_of_fails hidle (((checkFrame_decides s).some_iff e).mpr hfirst)
  case accepts => exact execCmdProcess_of_passes hidle ((checkFrame_decides s).none_iff.mpr hnone)

end Sys2Proof.Machine
end

section
/-! PROOFS. The normalizer (42_frame_transform.md R136 to R141): the index on a proper cut range in one unsigned formula,
and its values on a degenerate one. -/

namespace Sys2Proof.Machine

/-! The proper range: with truncated subtraction the two clamps of R137 are one minimum -/

/-- The signed quotient of R137, clamped below, is the unsigned one of R139. -/
theorem max_zero_fdiv_eq {n f : Nat} (h : n < f) (v : Nat) :
    max 0 (Int.fdiv (((v : Int) - n) * 255) ((f : Int) - n)) = ((v - n) * 255 / (f - n) : Nat) := by
  have hpos : (0 : Int) < (f : Int) - n := by omega
  rw [Int.fdiv_eq_ediv_of_nonneg _ hpos.le]
  obtain hv | hv := Nat.le_total v n
  · have hneg : (((v : Int) - n) * 255) / ((f : Int) - n) ≤ 0 := Int.ediv_le_of_le_mul hpos (by omega)
    rw [max_eq_left hneg, Nat.sub_eq_zero_of_le hv]
    simp
  · have hcast : (((v : Int) - n) * 255) / ((f : Int) - n) = ((v - n) * 255 / (f - n) : Nat) := by
      push_cast [hv, h.le]
      rfl
    rw [hcast, max_eq_right (Int.natCast_nonneg _)]

/-- On a proper range the index is the unsigned quotient, cut at 255 (R137, R139). -/
theorem FrameLatch.idx_toNat_of_lt {f : FrameLatch} (h : f.effNear < f.effFar) (v : Nat) :
    (f.idx v).toNat = min 255 ((v - f.effNear) * 255 / (f.effFar - f.effNear)) := by
  have hclamp := toNat_ofInt_clamp (Int.fdiv (((v : Int) - f.effNear) * 255) ((f.effFar : Int) - f.effNear))
  have hquot := max_zero_fdiv_eq h v
  rw [FrameLatch.idx, normalizedIndex, if_pos h]
  omega

/-- On a degenerate or inverted range the index is a step at the near cut (R138). -/
theorem FrameLatch.idx_toNat_of_le {f : FrameLatch} (h : f.effFar ≤ f.effNear) (v : Nat) :
    (f.idx v).toNat = if v ≤ f.effNear then 0 else 255 := by
  rw [FrameLatch.idx, normalizedIndex, if_neg (Nat.not_lt.mpr h)]
  split
  · rfl
  · rfl

/-- Up to the near cut of a proper range the index is 0 (R139). -/
theorem FrameLatch.idx_toNat_of_le_near {f : FrameLatch} (h : f.effNear < f.effFar) {v : Nat} (hv : v ≤ f.effNear) :
    (f.idx v).toNat = 0 := by
  rw [idx_toNat_of_lt h, Nat.sub_eq_zero_of_le hv]
  simp

/-- From the far cut of a proper range on the index is 255 (R139). -/
theorem FrameLatch.idx_toNat_of_far_le {f : FrameLatch} (h : f.effNear < f.effFar) {v : Nat} (hv : f.effFar ≤ v) :
    (f.idx v).toNat = 255 := by
  have hquot : 255 ≤ (v - f.effNear) * 255 / (f.effFar - f.effNear) := by
    rw [Nat.le_div_iff_mul_le (Nat.sub_pos_of_lt h)]
    omega
  rw [idx_toNat_of_lt h, min_eq_left hquot]

/-- Before the far cut of a proper range the quotient has not reached 255 (R139). -/
theorem FrameLatch.idx_quotient_lt {f : FrameLatch} (h : f.effNear < f.effFar) {v : Nat} (hv : v < f.effFar) :
    (v - f.effNear) * 255 / (f.effFar - f.effNear) < 255 := by
  rw [Nat.div_lt_iff_lt_mul (Nat.sub_pos_of_lt h)]
  omega

/-- Settles O41: the cuts of the statement are the effective ones, and each case is the index of its range. -/
theorem normalizerHasTheUnsignedForm : Obligations.NormalizerHasTheUnsignedForm := by
  refine fun f v => ⟨fun (h : f.effNear < f.effFar) => ⟨?near, ?far, fun _ hv => ?between⟩, ?degenerate⟩
  case near => exact f.idx_toNat_of_le_near h
  case far => exact f.idx_toNat_of_far_le h
  case between =>
    have hlt := FrameLatch.idx_quotient_lt h hv
    have hidx : (f.idx v).toNat = (v - f.effNear) * 255 / (f.effFar - f.effNear) :=
      (FrameLatch.idx_toNat_of_lt h v).trans (min_eq_right hlt.le)
    exact ⟨hidx, hidx ▸ Nat.le_of_lt_succ hlt⟩
  case degenerate => exact fun h => FrameLatch.idx_toNat_of_le h v

/-- The index does not decrease with the sample, on a proper range and on a degenerate one (R141). -/
theorem FrameLatch.idx_mono (f : FrameLatch) {v w : Nat} (hvw : v ≤ w) : (f.idx v).toNat ≤ (f.idx w).toNat := by
  obtain h | h := Nat.lt_or_ge f.effNear f.effFar
  · rw [idx_toNat_of_lt h, idx_toNat_of_lt h]
    gcongr
  · rw [idx_toNat_of_le h, idx_toNat_of_le h]
    split_ifs <;> omega

/-- Settles O42: it is monotone on either range, and the ends of a proper one. -/
theorem normalizerIsMonotone : Obligations.NormalizerIsMonotone := fun f _ _ hvw =>
  ⟨f.idx_mono hvw, fun h => ⟨fun hv => f.idx_toNat_of_le_near h hv.le, fun hw => f.idx_toNat_of_far_le h hw.le,
    f.idx_toNat_of_le_near h le_rfl, f.idx_toNat_of_far_le h le_rfl⟩⟩

end Sys2Proof.Machine
end

section
/-! PROOFS. The color of a NONE frame (42_frame_transform.md R135) and the output formatter (R143). -/

namespace Sys2Proof.Machine

theorem InFormat.maxv_pos (i : InFormat) : 0 < i.maxv := by cases i <;> decide

/-- A NONE frame's color does not depend on the cuts or the table (R134). -/
theorem FrameLatch.color_of_none {f : FrameLatch} (h : f.preset = .none) (active : Lut) (v : Nat) :
    f.color active v = noneColor f.inFmt v := by
  rw [FrameLatch.color, h]

/-- The passed-through intensity of a sample in range fits a channel (R135). -/
theorem noneIntensity_le {i : InFormat} {v : Nat} (hv : v ≤ i.maxv) : v * 255 / i.maxv ≤ 255 :=
  Nat.div_le_of_le_mul (Nat.mul_le_mul_right 255 hv)

/-- Settles O40: the channel holds the quotient whole, which each format's `MAXV` reduces to its closed form. -/
theorem nonePassesTheIntensityThrough : Obligations.NonePassesTheIntensityThrough := by
  intro f active v hnone hv
  have hq : (BitVec.ofNat 8 (v * 255 / f.inFmt.maxv)).toNat = v * 255 / f.inFmt.maxv :=
    (BitVec.toNat_ofNat _ 8).trans (Nat.mod_eq_of_lt (Nat.lt_succ_of_le (noneIntensity_le hv)))
  refine ⟨_, FrameLatch.color_of_none hnone active v, hq, fun hgray8 => ?gray8, fun hgray16 => ?gray16⟩
  case gray8 =>
    rw [hq, hgray8]
    exact Nat.mul_div_cancel v (by decide)
  case gray16 =>
    rw [hq, hgray16]
    exact Nat.mul_div_mul_right v 257 (by decide : 0 < 255)

/-- Settles O43: each format by its row of the formatter, and the length by `length_pack`. -/
theorem formatterOrdersTheChannels : Obligations.FormatterOrdersTheChannels :=
  fun c => ⟨rfl, rfl, rfl, rfl, fun o => length_pack o c⟩

end Sys2Proof.Machine
end

section
/-! PROOFS. The end of a frame whose pixels are being processed (42_frame_transform.md R130, 20_memory.md R71). -/

namespace Sys2Proof.Machine

/-- Every pixel of the frame is in `DONE_PX` (R127), by coordinates. -/
theorem nextPixel_eq_none_iff_coords (s : State) :
    s.nextPixel = none ↔ ∀ x y, x < s.frame.width.toNat → y < s.frame.height.toNat → (x, y) ∈ s.donePx := by
  simp only [nextPixel_eq_none, FrameLatch.hasPixel_iff, Prod.forall, and_imp]

/-- While pixels are processed, the frame ends if nothing is in flight and no pixel is left, and else stays (R130). -/
theorem finishStep_of_running {s : State} (hrunning : s.phase = .running) :
    finishStep s = if s.inflight = [] ∧ s.nextPixel = none then completeFrame s else s := by
  rw [finishStep, hrunning, ite_and]

/-- Settles O49: the finishing step completes under its condition, and each alternative denies that condition. -/
theorem frameCompletesWhenAllIsWritten : Obligations.FrameCompletesWhenAllIsWritten := by
  refine fun s hrunning => ⟨fun hflight hdone => ?completes, fun hunfinished => ?stays⟩
  case completes =>
    have hstep : finishStep s = completeFrame s := by
      rw [finishStep_of_running hrunning, if_pos ⟨hflight, (nextPixel_eq_none_iff_coords s).mpr hdone⟩]
    exact congrArg Host.Outcome.next hstep
  case stays =>
    have hnot : ¬ (s.inflight = [] ∧ s.nextPixel = none) := by
      rintro ⟨hflight, hnext⟩
      obtain hne | ⟨x, y, hx, hy, hxy⟩ := hunfinished
      · exact hne hflight
      · exact hxy ((nextPixel_eq_none_iff_coords s).mp hnext x y hx hy)
    have hstep : finishStep s = s := by rw [finishStep_of_running hrunning, if_neg hnot]
    exact congrArg Host.Outcome.next hstep

end Sys2Proof.Machine
end

section
/-! PROOFS. The writes of the frame descriptors (42_frame_transform.md R116 to R123), with the fields of the stored word as
numbers (30_encoding.md R81). -/

namespace Sys2Proof.Machine

/-- A register's write, from the row its offset decodes to and what the row's instruction does. -/
theorem writesAs_of_decodeFields {i : Word → Instr} {off : Offset} {upd : Nat → State → State}
    (hdecode : ∀ d, decodeFields true off d = i d) (hexec : ∀ d s, exec (i d) s = .next (upd d.toNat s)) :
    WritesAs i off upd :=
  fun d s => ⟨(decode_ofFields true off d).trans (hdecode d), hexec d s⟩

/-- The format code of a word, by its number: bits 3:0 (R81). -/
theorem fmtCodeOf_eq_ofNat (d : Word) : fmtCodeOf d = BitVec.ofNat 4 (d.toNat % 16) :=
  BitVec.eq_of_toNat_eq (by simp)

/-- A word is its number (R12). -/
theorem word_eq_ofNat (d : Word) : d = BitVec.ofNat 32 d.toNat := BitVec.eq_of_toNat_eq (by simp)

theorem exec_wrSrcBase (d : Word) (s : State) : exec (.wrSrcBase d) s = .next { s with srcBase := d } := rfl

theorem exec_wrSrcStride (d : Word) (s : State) : exec (.wrSrcStride d) s = .next { s with srcStride := d } := rfl

theorem exec_wrSrcGeom (d : Word) (s : State) : exec (.wrSrcGeom d) s = .next { s with srcGeom := geomOf d } := rfl

theorem exec_wrSrcFmt (d : Word) (s : State) : exec (.wrSrcFmt d) s = .next { s with srcFmt := fmtCodeOf d } := rfl

theorem exec_wrDstBase (d : Word) (s : State) : exec (.wrDstBase d) s = .next { s with dstBase := d } := rfl

theorem exec_wrDstStride (d : Word) (s : State) : exec (.wrDstStride d) s = .next { s with dstStride := d } := rfl

theorem exec_wrDstGeom (d : Word) (s : State) : exec (.wrDstGeom d) s = .next { s with dstGeom := geomOf d } := rfl

theorem exec_wrDstFmt (d : Word) (s : State) : exec (.wrDstFmt d) s = .next { s with dstFmt := fmtCodeOf d } := rfl

/-- Settles O12, one descriptor at a time: the row its offset decodes to, then the fields it stores. -/
theorem descriptorWritesStoreTheirFields : Obligations.DescriptorWritesStoreTheirFields := by
  refine ⟨writesAs_of_decodeFields (fun _ => rfl) fun d s => ?srcBase,
    writesAs_of_decodeFields (fun _ => rfl) fun d s => ?srcStride,
    writesAs_of_decodeFields (fun _ => rfl) fun d s => ?srcGeom,
    writesAs_of_decodeFields (fun _ => rfl) fun d s => ?srcFmt,
    writesAs_of_decodeFields (fun _ => rfl) fun d s => ?dstBase,
    writesAs_of_decodeFields (fun _ => rfl) fun d s => ?dstStride,
    writesAs_of_decodeFields (fun _ => rfl) fun d s => ?dstGeom,
    writesAs_of_decodeFields (fun _ => rfl) fun d s => ?dstFmt⟩
  case srcBase => rw [exec_wrSrcBase, ← word_eq_ofNat]
  case srcStride => rw [exec_wrSrcStride, ← word_eq_ofNat]
  case srcGeom => rw [exec_wrSrcGeom, geomOf_eq_ofNat]
  case srcFmt => rw [exec_wrSrcFmt, fmtCodeOf_eq_ofNat]
  case dstBase => rw [exec_wrDstBase, ← word_eq_ofNat]
  case dstStride => rw [exec_wrDstStride, ← word_eq_ofNat]
  case dstGeom => rw [exec_wrDstGeom, geomOf_eq_ofNat]
  case dstFmt => rw [exec_wrDstFmt, fmtCodeOf_eq_ofNat]

end Sys2Proof.Machine
end

section
/-! PROOFS. The unmapped offsets (43_control.md R153): from 0x050 on no row of the register map takes an aligned offset, and
every row that is left is the same unmapped access. -/

namespace Sys2Proof.Machine

/-! Decoding -/

/-- The low two bits of a multiple of 4. -/
theorem lowBits_of_aligned {off : Offset} (h : off.toNat % 4 = 0) : off.extractLsb' 0 2 = 0#2 :=
  BitVec.eq_of_toNat_eq (by simp [BitVec.extractLsb'_toNat, h])

/-- An aligned offset decodes by the register map, and where that has no row, as unmapped (30_encoding.md R79). -/
theorem decodeFields_of_aligned {off : Offset} (h : off.toNat % 4 = 0) (we : Bool) (d : Word) :
    decodeFields we off d = (if we then decodeWrite off d else decodeRead off d).getD (decodeUnmapped we off d) := by
  simp [decodeFields, lowBits_of_aligned h]

/-- An offset from 0x050 on is none of the registers' offsets below it (R80). -/
theorem offset_ne_of_lt {off c : Offset} (h : 0x050 ≤ off.toNat) (hc : c.toNat < 0x050) : off ≠ c :=
  fun heq => absurd hc (Nat.not_lt.mpr (heq ▸ h))

theorem decodeRead_of_unmapped {off : Offset} (h : 0x050 ≤ off.toNat) (d : Word) : decodeRead off d = none := by
  simp [decodeRead, offset_ne_of_lt h]

theorem decodeWrite_of_unmapped {off : Offset} (h : 0x050 ≤ off.toNat) (d : Word) : decodeWrite off d = none := by
  simp [decodeWrite, offset_ne_of_lt h]

/-- A multiple of 4 from 0x050 on decodes as unmapped, read or write (R79, R80). -/
theorem decodeFields_of_unmapped {off : Offset} (h : 0x050 ≤ off.toNat) (haligned : off.toNat % 4 = 0) (we : Bool)
    (d : Word) : decodeFields we off d = decodeUnmapped we off d := by
  rw [decodeFields_of_aligned haligned, decodeRead_of_unmapped h, decodeWrite_of_unmapped h, ite_self, Option.getD_none]

/-! The access -/

theorem unmappedAccess_eq (we : Bool) (s : State) :
    unmappedAccess we s = .next (if we then s else { s with readData := 0 }) := by
  cases we with
  | true => rfl
  | false => rfl

/-- Whichever of the seven rows the bits of the offset select, it is the unmapped access (R153). -/
theorem exec_decodeUnmapped (we : Bool) (off : Offset) (d : Word) (s : State) :
    exec (decodeUnmapped we off d) s = unmappedAccess we s := by
  unfold decodeUnmapped
  split_ifs
  all_goals rfl

theorem exec_decode_of_unmapped {off : Offset} (h : 0x050 ≤ off.toNat) (haligned : off.toNat % 4 = 0) (we : Bool)
    (d : Word) (s : State) :
    exec (decode (TWord.ofFields we off d)) s = .next (if we then s else { s with readData := 0 }) := by
  rw [decode_ofFields, decodeFields_of_unmapped h haligned, exec_decodeUnmapped, unmappedAccess_eq]

/-- Settles O17: by the offset, whose row is an unmapped one; and row by row, each of them the same access. -/
theorem unmappedOffsetsReadZeroAndIgnoreWrites : Obligations.UnmappedOffsetsReadZeroAndIgnoreWrites := by
  refine ⟨fun off d s hoff haligned => ⟨?read, ?write⟩, fun we d s => ⟨_, rfl, ?rows⟩⟩
  case read => exact exec_decode_of_unmapped hoff haligned false d s
  case write => exact exec_decode_of_unmapped hoff haligned true d s
  case rows =>
    have hrow := unmappedAccess_eq we s
    exact ⟨fun _ => hrow, fun _ => hrow, fun _ => hrow, fun _ => hrow, fun _ => hrow, fun _ => hrow, fun _ => hrow⟩

end Sys2Proof.Machine
end

section
/-! PROOFS. The writes of `CMD` (43_control.md R146 to R149): the words that name no command, NOP, CLEAR_ERROR, and the
commands dropped while busy; and the writes of the read-only registers (R152). -/

namespace Sys2Proof.Machine

/-! The words of `CMD` (30_encoding.md R82) -/

theorem decode_cmd (d : Word) : decode (TWord.ofFields true 0x004#12 d) = decodeCommand d :=
  (decode_ofFields true 0x004#12 d).trans rfl

/-- The word of the command NOP. -/
theorem isCommand_cmdNop : IsCommand .cmdNop 0 := (decode_cmd 0).trans rfl

/-- The word of the command CLEAR_ERROR. -/
theorem isCommand_cmdClearError : IsCommand .cmdClearError 3 := (decode_cmd 3).trans rfl

/-- A word from 4 on is none of the four commands' words below it. -/
theorem word_ne_of_lt {d c : Word} (h : 4 ≤ d.toNat) (hc : c.toNat < 4) : d ≠ c :=
  fun heq => absurd hc (Nat.not_lt.mpr (heq ▸ h))

/-- Whichever row a word from 4 on falls in, it is an illegal command (R148). -/
theorem exec_decodeCommand_of_four_le {d : Word} (h : 4 ≤ d.toNat) (s : State) :
    exec (decodeCommand d) s = illegalCommand s := by
  have hnop : d ≠ 0 := word_ne_of_lt h (by decide)
  have hnegotiate : d ≠ 1 := word_ne_of_lt h (by decide)
  have hprocess : d ≠ 2 := word_ne_of_lt h (by decide)
  have hclear : d ≠ 3 := word_ne_of_lt h (by decide)
  rw [decodeCommand, if_neg hnop, if_neg hnegotiate, if_neg hprocess, if_neg hclear]
  split_ifs
  all_goals rfl

/-- An illegal command is recorded as an error and does nothing else (R148). -/
theorem illegalCommand_eq (s : State) : illegalCommand s = .next { s with errCode := .illegalCommand, intErr := true } :=
  raiseError_eq .illegalCommand s

/-- Settles O18: a word that names no command is at least 4, so its row is an illegal one; and row by row. -/
theorem illegalCommandWordsRaise : Obligations.IllegalCommandWordsRaise := by
  refine ⟨fun d s hillegal => ?word, fun s => ⟨_, rfl, ?rows⟩⟩
  case word =>
    have hfour : 4 ≤ d.toNat := by omega
    rw [decode_cmd, exec_decodeCommand_of_four_le hfour, illegalCommand_eq]
  case rows =>
    have hrow := illegalCommand_eq s
    exact ⟨fun _ => hrow, fun _ => hrow, fun _ => hrow, fun _ => hrow, fun _ => hrow, fun _ => hrow, fun _ => hrow⟩

/-! Writes without effect -/

theorem exec_cmdNop (s : State) : exec .cmdNop s = .next s := rfl

/-- A read-only register's write, from the row its offset decodes to and that the row ignores the write (R152). -/
theorem writesAs_of_ignored {i : Word → Instr} {off : Offset} (hdecode : ∀ d, decodeFields true off d = i d)
    (hexec : ∀ d s, exec (i d) s = ignoreWrite s) : WritesAs i off (fun _ s => s) :=
  writesAs_of_decodeFields hdecode hexec

/-- Settles O16: NOP by its word, then one read-only register at a time. -/
theorem writesThatChangeNothing : Obligations.WritesThatChangeNothing :=
  ⟨isCommand_cmdNop, exec_cmdNop, writesAs_of_ignored (fun _ => rfl) fun _ _ => rfl,
    writesAs_of_ignored (fun _ => rfl) fun _ _ => rfl, writesAs_of_ignored (fun _ => rfl) fun _ _ => rfl,
    writesAs_of_ignored (fun _ => rfl) fun _ _ => rfl⟩

/-! CLEAR_ERROR -/

theorem exec_cmdClearError (s : State) : exec .cmdClearError s = .next (clearError s) := rfl

/-- With nothing outstanding, an aborting frame ends its abort (60_exceptions.md R185). -/
theorem finishStep_of_aborting {s : State} (haborting : s.phase = .aborting) (hflight : s.inflight = []) :
    finishStep s = abortFrame s := by
  rw [finishStep, if_pos hflight, haborting]

/-- The end of an abort records `BusError`, whatever the code was (R185). -/
theorem abortFrame_errCode (s : State) : (abortFrame s).errCode = .busError := recordError_errCode .busError _

/-- Settles O19: the command leaves the phase and the outstanding requests, so an abort still ends after it. -/
theorem clearErrorClearsCodeAndOverrun : Obligations.ClearErrorClearsCodeAndOverrun := by
  refine ⟨isCommand_cmdClearError, exec_cmdClearError, fun s haborting hflight => ?setAgain⟩
  case setAgain =>
    have hfinish : finishStep (clearError s) = abortFrame (clearError s) :=
      finishStep_of_aborting ((clearError_phase s).trans haborting) ((clearError_inflight s).trans hflight)
    exact ⟨clearError s, abortFrame (clearError s), exec_cmdClearError s, congrArg Host.Outcome.next hfinish,
      abortFrame_errCode (clearError s)⟩

/-! Commands while busy -/

/-- PROCESS is dropped while busy (R149). -/
theorem execCmdProcess_of_busy {s : State} (hbusy : s.phase ≠ .idle) :
    execCmdProcess s = .next { s with ovr := true } := by
  obtain ⟨-, hdrop⟩ | ⟨_, hidle, -⟩ | ⟨hidle, -⟩ := execCmdProcess_cases s
  · rw [hdrop, dropCommand_eq]
  · exact absurd ((busy_false_iff s).mp hidle) hbusy
  · exact absurd ((busy_false_iff s).mp hidle) hbusy

/-- Settles O20, one command at a time. -/
theorem commandsWhileBusyAreDropped : Obligations.CommandsWhileBusyAreDropped :=
  fun _ hbusy => ⟨execCmdNegotiate_of_busy hbusy, execCmdProcess_of_busy hbusy⟩

end Sys2Proof.Machine
end

section
/-! PROOFS. The register reads (43_control.md R154 to R173): each answers a word built from the state's fields, whose number
is the sum of the fields at their weights. -/

namespace Sys2Proof.Machine

/-- A register's read, from the row its offset decodes to, the word the row's instruction answers, and that word's number. -/
theorem readsAs_of_answer {i : Word → Instr} {off : Offset} {v : State → Nat} (word : State → Word)
    (hdecode : ∀ d, decodeFields false off d = i d) (hexec : ∀ d s, exec (i d) s = answer (word s) s)
    (hnumber : ∀ s, (word s).toNat = v s) : ReadsAs i off v := by
  intro d s
  have hlt : v s < 2 ^ 32 := hnumber s ▸ (word s).isLt
  have hword : word s = BitVec.ofNat 32 (v s) := hnumber s ▸ word_eq_ofNat (word s)
  exact ⟨(decode_ofFields false off d).trans (hdecode d), hlt, by rw [hexec, answer_eq, hword]⟩

/-! The codes as numbers -/

theorem ErrorCode.code_toNat (e : ErrorCode) : e.code.toNat = e.number := by cases e <;> rfl

theorem Preset.code_toNat (p : Preset) : p.code.toNat = if p = .jet then 1 else 0 := by cases p <;> rfl

/-! The reads -/

/-- Settles O7: the constants, then `STATUS` and the interrupt registers by their flags. -/
theorem readsOfIdentityStatusAndInterrupts : Obligations.ReadsOfIdentityStatusAndInterrupts := by
  refine ⟨readsAs_of_answer (fun _ => idWord) (fun _ => rfl) (fun _ _ => rfl) fun _ => rfl,
    readsAs_of_answer (fun _ => 0) (fun _ => rfl) (fun _ _ => rfl) fun _ => rfl,
    readsAs_of_answer State.statusWord (fun _ => rfl) (fun _ _ => rfl) fun s => ?status,
    readsAs_of_answer (fun s => flagPairWord s.intErr s.intDone) (fun _ => rfl) (fun _ _ => rfl) fun s => ?intStatus,
    readsAs_of_answer (fun s => flagPairWord s.errEn s.doneEn) (fun _ => rfl) (fun _ _ => rfl) fun s => ?intEnable⟩
  case status => rw [statusWord_toNat, ErrorCode.code_toNat, State.busy]
  case intStatus => exact flagPairWord_toNat s.intErr s.intDone
  case intEnable => exact flagPairWord_toNat s.errEn s.doneEn

/-- Settles O8, one configuration register at a time. -/
theorem readsOfTheConfiguration : Obligations.ReadsOfTheConfiguration :=
  ⟨readsAs_of_answer (fun s => s.preset.code) (fun _ => rfl) (fun _ _ => rfl) fun s => s.preset.code_toNat,
    readsAs_of_answer (fun s => halfWord s.nearCut) (fun _ => rfl) (fun _ _ => rfl) fun s => halfWord_toNat s.nearCut,
    readsAs_of_answer (fun s => halfWord s.farCut) (fun _ => rfl) (fun _ _ => rfl) fun s => halfWord_toNat s.farCut⟩

/-- Settles O9, one register at a time; the context's formats answer their codes, which are their numbers. -/
theorem readsOfStagedAndNegotiatedFormat : Obligations.ReadsOfStagedAndNegotiatedFormat := by
  refine ⟨readsAs_of_answer (fun s => fmtWord s.fmt.inFmt s.fmt.outFmt) (fun _ => rfl) (fun _ _ => rfl) fun s => ?fmt,
    readsAs_of_answer (fun s => s.geom.word) (fun _ => rfl) (fun _ _ => rfl) fun s => s.geom.word_toNat,
    readsAs_of_answer (fun s => fmtWord s.ctxIn.code s.ctxOut.code) (fun _ => rfl) (fun _ _ => rfl) fun s => ?ctxFmt,
    readsAs_of_answer (fun s => s.ctxGeom.word) (fun _ => rfl) (fun _ _ => rfl) fun s => s.ctxGeom.word_toNat⟩
  case fmt => exact fmtWord_toNat s.fmt.inFmt s.fmt.outFmt
  case ctxFmt => rw [fmtWord_toNat, InFormat.code_toNat, OutFormat.code_toNat]

/-- Settles O10, one descriptor at a time: the word answered is the register's, not the frame latch's. -/
theorem readsOfTheDescriptors : Obligations.ReadsOfTheDescriptors :=
  ⟨readsAs_of_answer State.srcBase (fun _ => rfl) (fun _ _ => rfl) fun _ => rfl,
    readsAs_of_answer State.srcStride (fun _ => rfl) (fun _ _ => rfl) fun _ => rfl,
    readsAs_of_answer (fun s => s.srcGeom.word) (fun _ => rfl) (fun _ _ => rfl) fun s => s.srcGeom.word_toNat,
    readsAs_of_answer (fun s => fmtCodeWord s.srcFmt) (fun _ => rfl) (fun _ _ => rfl) fun s => fmtCodeWord_toNat s.srcFmt,
    readsAs_of_answer State.dstBase (fun _ => rfl) (fun _ _ => rfl) fun _ => rfl,
    readsAs_of_answer State.dstStride (fun _ => rfl) (fun _ _ => rfl) fun _ => rfl,
    readsAs_of_answer (fun s => s.dstGeom.word) (fun _ => rfl) (fun _ _ => rfl) fun s => s.dstGeom.word_toNat,
    readsAs_of_answer (fun s => fmtCodeWord s.dstFmt) (fun _ => rfl) (fun _ _ => rfl) fun s => fmtCodeWord_toNat s.dstFmt⟩

end Sys2Proof.Machine
end

section
/-! PROOFS. The block after reset (70_reset_and_hazards.md R198), from when a block rests: idle, no build, no event to come. -/

namespace Sys2Proof.Machine

/-- An idle block that builds no table has no step of its own to take (60_exceptions.md R196). -/
theorem ownTurn_of_idle {s : State} (hidle : s.phase = .idle) (hbuild : s.buildBusy = false) : s.ownTurn = none := by
  simp [State.ownTurn, hidle, hbuild]

/-- With no event to come and no step of its own, the block stays as it is. -/
theorem step_of_no_turn {s : State} (hinputs : s.inputs = []) (hturn : s.ownTurn = none) : step s = .next s := by
  obtain ⟨e, rest, hcons, -⟩ | ⟨e, -, hsome, -⟩ | ⟨-, -, hstay⟩ := step_cases s
  · exact absurd (hinputs.symm.trans hcons) (List.cons_ne_nil e rest).symm
  · exact absurd (hturn.symm.trans hsome) (Option.some_ne_none e).symm
  · exact hstay

/-- The interrupt output is 0 while both causes are masked (R188). -/
theorem irq_of_masked {s : State} (hdone : s.doneEn = false) (herr : s.errEn = false) : s.irq = false := by
  simp [State.irq, hdone, herr]

/-- Settles O51: the registers by their reset values, the output by its masks, the step because the block is at rest. -/
theorem resetLeavesAnIdleBlock : Obligations.ResetLeavesAnIdleBlock := by
  have hidle : State.reset.phase = .idle := rfl
  have hbuild : State.reset.buildBusy = false := rfl
  have hdone : State.reset.doneEn = false := rfl
  have herr : State.reset.errEn = false := rfl
  exact ⟨hidle, hbuild, rfl, hdone, herr, irq_of_masked hdone herr, rfl, rfl, rfl, rfl, rfl,
    step_of_no_turn rfl (ownTurn_of_idle hidle hbuild)⟩

end Sys2Proof.Machine
end

section
/-! PROOFS. The transaction words (30_encoding.md R78 to R82): the encoder and the decoder are each other's inverse, row by
row of the register map; and the step that takes a register transaction. -/

namespace Sys2Proof.Machine

/-! Fields of an offset or of a command word, by numbers -/

/-- A bit of a word, by its number. -/
theorem getLsbD_eq_decide {w : Nat} (x : BitVec w) (i : Nat) : x.getLsbD i = decide (x.toNat / 2 ^ i % 2 = 1) := by
  rw [← BitVec.testBit_toNat, Nat.testBit_eq_decide_div_mod_eq]

/-- The field that stands between two others is what it was made of. -/
theorem extractLsb'_append_middle {k n m : Nat} (x : BitVec k) (y : BitVec n) (z : BitVec m) :
    (x ++ y ++ z).extractLsb' m n = y := by
  apply BitVec.eq_of_getLsbD_eq
  intro i hi
  simp [BitVec.getLsbD_append, hi]

/-- The lowest field is what it was made of. -/
theorem extractLsb'_append_low {k n : Nat} (x : BitVec k) (y : BitVec n) : (x ++ y).extractLsb' 0 n = y := by
  apply BitVec.eq_of_getLsbD_eq
  intro i hi
  simp [BitVec.getLsbD_append, hi]

/-- The highest field is what it was made of. -/
theorem extractLsb'_append_high {k n : Nat} (x : BitVec k) (y : BitVec n) : (x ++ y).extractLsb' n k = x := by
  apply BitVec.eq_of_getLsbD_eq
  intro i hi
  simp [BitVec.getLsbD_append, hi]

/-! Decoding an encoded instruction -/

/-- A word that an illegal row below 0x100 encodes decodes to that row (43_control.md R148). -/
theorem decodeCommand_illegal04 (lo : BitVec 2) : decodeCommand (1#30 ++ lo) = .cmdIllegal04 lo := by
  revert lo; decide

theorem decodeCommand_illegal08 (lo : BitVec 3) : decodeCommand (1#29 ++ lo) = .cmdIllegal08 lo := by
  revert lo; decide

theorem decodeCommand_illegal10 (lo : BitVec 4) : decodeCommand (1#28 ++ lo) = .cmdIllegal10 lo := by
  revert lo; decide

theorem decodeCommand_illegal20 (lo : BitVec 5) : decodeCommand (1#27 ++ lo) = .cmdIllegal20 lo := by
  revert lo; decide

theorem decodeCommand_illegal40 (lo : BitVec 6) : decodeCommand (1#26 ++ lo) = .cmdIllegal40 lo := by
  revert lo; decide

theorem decodeCommand_illegal80 (lo : BitVec 7) : decodeCommand (1#25 ++ lo) = .cmdIllegal80 lo := by
  revert lo; decide

/-- A command word above 0xFF is the catch-all row (R148). -/
theorem decodeCommand_illegalHigh {d : Word} (h : d.extractLsb' 8 24 ≠ 0) : decodeCommand d = .cmdIllegalHigh d :=
  if_pos h

/-- The offset of an unmapped row is a multiple of 4 from 0x050 on (R153). -/
theorem unmapped_offset {k n : Nat} (c : BitVec k) (sel : BitVec n) (hc : 0x050 ≤ c.toNat * 2 ^ (n + 2)) :
    0x050 ≤ (c ++ sel ++ 0#2).toNat ∧ (c ++ sel ++ 0#2).toNat % 4 = 0 := by
  rw [Nat.pow_add, ← Nat.mul_assoc] at hc
  simp only [toNat_append_eq, BitVec.toNat_ofNat]
  omega

/-- A word of an unmapped row, from the row that the bits of its offset name (R153). -/
theorem decode_of_unmapped_row {we : Bool} {off : Offset} {d : Word} {i : Instr}
    (h : 0x050 ≤ off.toNat ∧ off.toNat % 4 = 0) (hrow : decodeUnmapped we off d = i) :
    decode (TWord.ofFields we off d) = i :=
  (decode_ofFields we off d).trans ((decodeFields_of_unmapped h.1 h.2 we d).trans hrow)

section UnmappedRows
variable (we : Bool) (d : Word)

/-! The row is told by the highest bits set (R153). -/

theorem decodeUnmapped_050 (sel : BitVec 2) :
    decodeUnmapped we (0b00000101#8 ++ sel ++ 0#2) d = .unmapped050 we sel d := by
  simp only [decodeUnmapped, BitVec.getLsbD_append, extractLsb'_append_middle]
  simp

theorem decodeUnmapped_060 (sel : BitVec 3) :
    decodeUnmapped we (0b0000011#7 ++ sel ++ 0#2) d = .unmapped060 we sel d := by
  simp only [decodeUnmapped, BitVec.getLsbD_append, extractLsb'_append_middle]
  simp

theorem decodeUnmapped_080 (sel : BitVec 5) :
    decodeUnmapped we (0b00001#5 ++ sel ++ 0#2) d = .unmapped080 we sel d := by
  simp only [decodeUnmapped, BitVec.getLsbD_append, extractLsb'_append_middle]
  simp

theorem decodeUnmapped_100 (sel : BitVec 6) :
    decodeUnmapped we (0b0001#4 ++ sel ++ 0#2) d = .unmapped100 we sel d := by
  simp only [decodeUnmapped, BitVec.getLsbD_append, extractLsb'_append_middle]
  simp

theorem decodeUnmapped_200 (sel : BitVec 7) :
    decodeUnmapped we (0b001#3 ++ sel ++ 0#2) d = .unmapped200 we sel d := by
  simp only [decodeUnmapped, BitVec.getLsbD_append, extractLsb'_append_middle]
  simp

theorem decodeUnmapped_400 (sel : BitVec 8) :
    decodeUnmapped we (0b01#2 ++ sel ++ 0#2) d = .unmapped400 we sel d := by
  simp only [decodeUnmapped, BitVec.getLsbD_append, extractLsb'_append_middle]
  simp

theorem decodeUnmapped_800 (sel : BitVec 9) :
    decodeUnmapped we (0b1#1 ++ sel ++ 0#2) d = .unmapped800 we sel d := by
  simp only [decodeUnmapped, BitVec.getLsbD_append, extractLsb'_append_middle]
  simp

end UnmappedRows

/-- Settles O1, row by row of the opcode table: a command by its word, a register by its offset, an unmapped or misaligned
row by the bits of its offset. -/
theorem decodeOfEncodeIsTheTransaction : Obligations.DecodeOfEncodeIsTheTransaction := by
  intro i hwf
  cases i
  case cmdIllegal04 lo => exact (decode_cmd _).trans (decodeCommand_illegal04 lo)
  case cmdIllegal08 lo => exact (decode_cmd _).trans (decodeCommand_illegal08 lo)
  case cmdIllegal10 lo => exact (decode_cmd _).trans (decodeCommand_illegal10 lo)
  case cmdIllegal20 lo => exact (decode_cmd _).trans (decodeCommand_illegal20 lo)
  case cmdIllegal40 lo => exact (decode_cmd _).trans (decodeCommand_illegal40 lo)
  case cmdIllegal80 lo => exact (decode_cmd _).trans (decodeCommand_illegal80 lo)
  case cmdIllegalHigh d => exact (decode_cmd d).trans (decodeCommand_illegalHigh (of_decide_eq_true hwf))
  case unmapped050 we sel d => exact decode_of_unmapped_row (unmapped_offset _ sel (by decide)) (decodeUnmapped_050 we d sel)
  case unmapped060 we sel d => exact decode_of_unmapped_row (unmapped_offset _ sel (by decide)) (decodeUnmapped_060 we d sel)
  case unmapped080 we sel d => exact decode_of_unmapped_row (unmapped_offset _ sel (by decide)) (decodeUnmapped_080 we d sel)
  case unmapped100 we sel d => exact decode_of_unmapped_row (unmapped_offset _ sel (by decide)) (decodeUnmapped_100 we d sel)
  case unmapped200 we sel d => exact decode_of_unmapped_row (unmapped_offset _ sel (by decide)) (decodeUnmapped_200 we d sel)
  case unmapped400 we sel d => exact decode_of_unmapped_row (unmapped_offset _ sel (by decide)) (decodeUnmapped_400 we d sel)
  case unmapped800 we sel d => exact decode_of_unmapped_row (unmapped_offset _ sel (by decide)) (decodeUnmapped_800 we d sel)
  case misaligned01 we hi d =>
    rw [encode, decode_ofFields, decodeFields, extractLsb'_append_low, extractLsb'_append_high]
    rfl
  case misaligned10 we hi d =>
    rw [encode, decode_ofFields, decodeFields, extractLsb'_append_low, extractLsb'_append_high]
    rfl
  case misaligned11 we hi d =>
    rw [encode, decode_ofFields, decodeFields, extractLsb'_append_low, extractLsb'_append_high]
    rfl
  all_goals exact (decode_ofFields _ _ _).trans rfl

/-! Encoding a decoded word -/

/-- A field with the bits above it is the whole word. -/
theorem append_extractLsb'_zero {k n : Nat} {c : BitVec k} {x : BitVec (k + n)} (h : x.toNat / 2 ^ n = c.toNat) :
    c ++ x.extractLsb' 0 n = x := by
  apply BitVec.eq_of_toNat_eq
  rw [toNat_append_eq, BitVec.extractLsb'_toNat, Nat.shiftRight_zero, ← h, Nat.div_add_mod']

/-- A command word whose high bytes are 0 is below 256 (30_encoding.md R82). -/
theorem lt_of_highBytes {d : Word} (h : ¬ d.extractLsb' 8 24 ≠ 0) : d.toNat < 256 := by
  have hlt := d.isLt
  have hhigh : d.toNat / 256 % 2 ^ 24 = 0 := by
    have := congrArg BitVec.toNat (not_not.mp h)
    rwa [BitVec.extractLsb'_toNat, Nat.shiftRight_eq_div_pow] at this
  omega

/-- A word that is none of the four commands' words is at least 4. -/
theorem four_le_of_ne {d : Word} (h0 : d ≠ 0) (h1 : d ≠ 1) (h2 : d ≠ 2) (h3 : d ≠ 3) : 4 ≤ d.toNat := by
  simp only [ne_eq, ← BitVec.toNat_inj, BitVec.ofNat_eq_ofNat, BitVec.toNat_ofNat] at h0 h1 h2 h3
  omega

/-- The word of a command is what its `DATA` decodes to, written to `CMD` (30_encoding.md R82). -/
theorem encode_decodeCommand (d : Word) :
    (decodeCommand d).wellFormed = true ∧ encode (decodeCommand d) = writeWord 0x004#12 d := by
  unfold decodeCommand
  simp only [getLsbD_eq_decide, decide_eq_true_eq]
  split_ifs with h8 h0 h1 h2 h3 h80 h40 h20 h10 h08
  · exact ⟨decide_eq_true h8, rfl⟩
  · exact ⟨rfl, by rw [h0]; rfl⟩
  · exact ⟨rfl, by rw [h1]; rfl⟩
  · exact ⟨rfl, by rw [h2]; rfl⟩
  · exact ⟨rfl, by rw [h3]; rfl⟩
  all_goals
    have hlt := lt_of_highBytes h8
    have hge := four_le_of_ne h0 h1 h2 h3
    exact ⟨rfl, congrArg (writeWord 0x004#12) (append_extractLsb'_zero (by rw [BitVec.toNat_ofNat]; omega))⟩

/-- What holds of every answer of a chain of tests holds of the first answer and of those of the rest. -/
theorem forall_mem_ite_some {P : Instr → Prop} {p : Prop} [Decidable p] {j : Instr} {r : Option Instr} (hj : p → P j)
    (hr : ∀ i ∈ r, P i) : ∀ i ∈ (if p then some j else r), P i := by
  split
  case isTrue hp => simpa using hj hp
  case isFalse => exact hr

/-- A read of a mapped register encodes to its word (R80). -/
theorem encode_decodeRead (off : Offset) (d : Word) :
    ∀ i ∈ decodeRead off d, i.wellFormed = true ∧ encode i = readWord off d := by
  unfold decodeRead
  iterate 20 refine forall_mem_ite_some (by rintro rfl; exact ⟨rfl, rfl⟩) ?_
  simp

/-- A write of a mapped register or of `CMD` encodes to its word (R80, R82). -/
theorem encode_decodeWrite (off : Offset) (d : Word) :
    ∀ i ∈ decodeWrite off d, i.wellFormed = true ∧ encode i = writeWord off d := by
  unfold decodeWrite
  refine forall_mem_ite_some (by rintro rfl; exact ⟨rfl, rfl⟩) ?_
  refine forall_mem_ite_some (by rintro rfl; exact encode_decodeCommand d) ?_
  iterate 18 refine forall_mem_ite_some (by rintro rfl; exact ⟨rfl, rfl⟩) ?_
  simp

/-- A chain of tests answers nothing where every test fails. -/
theorem ite_some_eq_none_iff {p : Prop} [Decidable p] {j : Instr} {r : Option Instr} :
    (if p then some j else r) = none ↔ ¬ p ∧ r = none := by
  split
  case isTrue hp => simp [hp]
  case isFalse hp => simp [hp]

/-- The aligned offsets that name no register start at 0x050 (R80). -/
theorem unmapped_of_decodeRead {off : Offset} {d : Word} (haligned : off.toNat % 4 = 0) (h : decodeRead off d = none) :
    0x050 ≤ off.toNat := by
  simp only [decodeRead, ite_some_eq_none_iff, ← BitVec.toNat_inj, BitVec.toNat_ofNat] at h
  omega

theorem unmapped_of_decodeWrite {off : Offset} {d : Word} (haligned : off.toNat % 4 = 0) (h : decodeWrite off d = none) :
    0x050 ≤ off.toNat := by
  simp only [decodeWrite, ite_some_eq_none_iff, ← BitVec.toNat_inj, BitVec.toNat_ofNat] at h
  omega

/-- The bits an unmapped row fixes, with the bits it leaves free, are the whole of an aligned offset. -/
theorem append_extractLsb'_two {k n : Nat} {c : BitVec k} {x : BitVec (k + n + 2)}
    (h : x.toNat / 2 ^ (n + 2) = c.toNat) (haligned : x.toNat % 4 = 0) : c ++ x.extractLsb' 2 n ++ 0#2 = x := by
  have hfixed : x.toNat / 2 ^ 2 / 2 ^ n = c.toNat := by rw [Nat.div_div_eq_div_mul, ← Nat.pow_add, Nat.add_comm 2 n, h]
  apply BitVec.eq_of_toNat_eq
  rw [toNat_append_eq, toNat_append_eq, BitVec.extractLsb'_toNat, Nat.shiftRight_eq_div_pow, ← hfixed, Nat.div_add_mod',
    BitVec.toNat_ofNat]
  omega

/-- An unmapped access encodes to its word: the row's fixed bits are those its tests found (R153). -/
theorem encode_decodeUnmapped {off : Offset} (h : 0x050 ≤ off.toNat) (haligned : off.toNat % 4 = 0) (we : Bool)
    (d : Word) :
    (decodeUnmapped we off d).wellFormed = true ∧ encode (decodeUnmapped we off d) = TWord.ofFields we off d := by
  have hlt := off.isLt
  unfold decodeUnmapped
  simp only [getLsbD_eq_decide, decide_eq_true_eq]
  split_ifs
  all_goals
    refine ⟨rfl, congrArg (TWord.ofFields we · d) (append_extractLsb'_two ?_ haligned)⟩
    rw [BitVec.toNat_ofNat]
    omega

/-- A misaligned access encodes to its word (20_memory.md R64). -/
theorem encode_of_misaligned {off : Offset} (h : off.toNat % 4 ≠ 0) (we : Bool) (d : Word) :
    (decodeFields we off d).wellFormed = true ∧ encode (decodeFields we off d) = TWord.ofFields we off d := by
  have hoff : off.extractLsb' 2 10 ++ off.extractLsb' 0 2 = off := by
    apply BitVec.eq_of_toNat_eq
    rw [toNat_append_eq, BitVec.extractLsb'_toNat, BitVec.extractLsb'_toNat, Nat.shiftRight_eq_div_pow,
      Nat.shiftRight_zero]
    omega
  unfold decodeFields
  obtain hlow | hlow | hlow := lowBits_of_misaligned h
  all_goals
    rw [hlow] at hoff ⊢
    exact ⟨rfl, congrArg (TWord.ofFields we · d) hoff⟩

/-- Settles O2: alignment first, then the register map, then the unmapped rows. -/
theorem everyWordIsOneTransaction : Obligations.EveryWordIsOneTransaction := by
  intro t
  rw [← TWord.ofFields_fields t, decode_ofFields]
  generalize t.we = we, t.off = off, t.data = d
  by_cases haligned : off.toNat % 4 = 0
  · rw [decodeFields_of_aligned haligned]
    cases we with
    | false =>
      cases hread : decodeRead off d with
      | some i => exact encode_decodeRead off d i hread
      | none => exact encode_decodeUnmapped (unmapped_of_decodeRead haligned hread) haligned false d
    | true =>
      cases hwrite : decodeWrite off d with
      | some i => exact encode_decodeWrite off d i hwrite
      | none => exact encode_decodeUnmapped (unmapped_of_decodeWrite haligned hwrite) haligned true d
  · exact encode_of_misaligned haligned we d

/-! The step that takes a transaction -/

/-- Settles O3: each word has the fields of its transaction. -/
theorem wordsOfTheSpecDecode : Obligations.WordsOfTheSpecDecode := by
  unfold Obligations.WordsOfTheSpecDecode
  decide

/-- A register transaction of 32 bits runs the decoded instruction (R64). -/
theorem deliver_host_32 (w : TWord) (s : State) : deliver (.host 32 w) s = exec (decode w) s := rfl

/-- Settles O4: the step delivers the event at the head, and a 32-bit transaction runs what it decodes to. -/
theorem stepRunsTheDecodedTransaction : Obligations.StepRunsTheDecodedTransaction := by
  intro s t i rest hin hdecode _
  rw [step_of_inputs_cons hin, deliver_host_32, hdecode]

/-- The word of a transaction that decodes to `i` is the one `i` encodes to (R79). -/
theorem eq_encode_of_decode {w : TWord} {i : Instr} (h : decode w = i) : w = encode i :=
  h ▸ (everyWordIsOneTransaction w).2.symm

/-- A misaligned row's word has its low two offset bits in bits 33:32 (R78). -/
theorem ofFields_misaligned (we : Bool) (hi : BitVec 10) (lo : BitVec 2) (d : Word) :
    (TWord.ofFields we (hi ++ lo) d).toNat / 2 ^ 32 % 4 = lo.toNat := by
  have hlo := lo.isLt
  rw [TWord.ofFields, BitVec.toNat_cast, toNat_append_eq, toNat_append_eq, toNat_append_eq]
  omega

/-- Every transaction has a next state but those of the misaligned rows, which are refused (20_memory.md R64). -/
theorem exec_answers (i : Instr) (s : State) :
    (∃ t, exec i s = .next t) ∨
    (∃ r we hi d, exec i s = .refused r ∧
      (i = .misaligned01 we hi d ∨ i = .misaligned10 we hi d ∨ i = .misaligned11 we hi d)) := by
  cases i
  case misaligned01 we hi d => exact .inr ⟨_, we, hi, d, rfl, .inl rfl⟩
  case misaligned10 we hi d => exact .inr ⟨_, we, hi, d, rfl, .inr (.inl rfl)⟩
  case misaligned11 we hi d => exact .inr ⟨_, we, hi, d, rfl, .inr (.inr rfl)⟩
  case cmdNegotiate =>
    obtain ⟨-, h⟩ | ⟨-, -, h⟩ | ⟨_, _, -, -, -, -, -, h⟩ := execCmdNegotiate_cases s
    all_goals exact .inl ⟨_, h⟩
  case cmdProcess =>
    obtain ⟨-, h⟩ | ⟨_, -, -, h⟩ | ⟨-, -, h⟩ := execCmdProcess_cases s
    all_goals exact .inl ⟨_, h⟩
  case wrPreset d =>
    obtain ⟨_, -, h⟩ | ⟨-, h⟩ := execWrPreset_cases d s
    all_goals exact .inl ⟨_, h⟩
  case unmapped050 we _ _ | unmapped060 we _ _ | unmapped080 we _ _ | unmapped100 we _ _ | unmapped200 we _ _ |
      unmapped400 we _ _ | unmapped800 we _ _ => exact .inl ⟨_, unmappedAccess_eq we s⟩
  all_goals exact .inl ⟨_, rfl⟩

/-- A transaction that is refused has an offset that is no multiple of 4 (R64). -/
theorem misaligned_of_exec_refused {w : TWord} {s : State} {r : Refusal} (h : exec (decode w) s = .refused r) :
    w.toNat / 2 ^ 32 % 4 ≠ 0 := by
  obtain ⟨t, hnext⟩ | ⟨_, we, hi, d, -, hrow | hrow | hrow⟩ := exec_answers (decode w) s
  · cases hnext.symm.trans h
  all_goals
    rw [eq_encode_of_decode hrow, encode, ofFields_misaligned]
    decide

/-- The engine's pixel step is never refused. -/
theorem pixelStep_ne_refused {p : Pixel} {picks : List Nat} {reply : BusReply} {s : State} {r : Refusal} :
    pixelStep p picks reply s ≠ .refused r := by
  obtain ⟨-, h⟩ | ⟨-, -, h⟩ | ⟨-, -, h⟩ | ⟨-, -, h⟩ := pixelStep_cases p picks reply s
  all_goals simp [h]

/-- An event that is refused is such a register transaction. -/
theorem deliver_refused_cases {e : Event} {s : State} {r : Refusal} (h : deliver e s = .refused r) :
    ∃ bits w, e = .host bits w ∧ (bits ≠ 32 ∨ w.toNat / 2 ^ 32 % 4 ≠ 0) := by
  cases e
  case host bits w =>
    refine ⟨bits, w, rfl, ?_⟩
    obtain ⟨-, hexec⟩ | ⟨hbits, -⟩ := hostTransaction_cases bits w s
    · exact .inr (misaligned_of_exec_refused (hexec.symm.trans h))
    · exact .inl hbits
  case pixel x y picks reply => exact absurd h pixelStep_ne_refused
  all_goals cases h

/-- The turns the block takes by itself, and when (70_reset_and_hazards.md R211). -/
theorem ownTurn_cases {s : State} {e : Event} (h : s.ownTurn = some e) :
    (e = .build ∧ s.buildBusy = true) ∨
    (e = .publish ∧ s.buildBusy = false ∧ s.phase = .fenced) ∨
    (e = .complete 0 .ok ∧ s.buildBusy = false ∧ (s.phase = .running ∨ s.phase = .aborting) ∧ s.inflight ≠ []) ∨
    (∃ p, e = .pixel p.1 p.2 [] .ok ∧ s.buildBusy = false ∧ s.phase = .running ∧ s.inflight = [] ∧
      s.nextPixel = some p) ∨
    (e = .finish ∧ s.buildBusy = false ∧ s.inflight = [] ∧
      (s.phase = .running ∧ s.nextPixel = none ∨ s.phase = .aborting)) := by
  unfold State.ownTurn at h
  cases hbuild : s.buildBusy
  case true => exact .inl ⟨by simpa [hbuild] using h.symm, rfl⟩
  case false =>
    rw [hbuild, if_neg Bool.false_ne_true] at h
    refine .inr ?_
    cases hphase : s.phase
    case idle => simp [hphase] at h
    case fenced => exact .inl ⟨by simpa [hphase] using h.symm, rfl, rfl⟩
    case running =>
      by_cases hflight : s.inflight = []
      · cases hnext : s.nextPixel
        case some p => exact .inr (.inr (.inl ⟨p, by simpa [hphase, hflight, hnext] using h.symm, rfl, rfl, hflight, rfl⟩))
        case none =>
          exact .inr (.inr (.inr ⟨by simpa [hphase, hflight, hnext] using h.symm, rfl, hflight, .inl ⟨rfl, rfl⟩⟩))
      · exact .inr (.inl ⟨by simpa [hphase, hflight] using h.symm, rfl, .inl rfl, hflight⟩)
    case aborting =>
      by_cases hflight : s.inflight = []
      · exact .inr (.inr (.inr ⟨by simpa [hphase, hflight] using h.symm, rfl, hflight, .inr rfl⟩))
      · exact .inr (.inl ⟨by simpa [hphase, hflight] using h.symm, rfl, .inr rfl, hflight⟩)

/-- The block takes no register transaction by itself. -/
theorem ownTurn_ne_host (s : State) (bits : Nat) (w : TWord) : s.ownTurn ≠ some (.host bits w) := by
  intro h
  obtain ⟨he, -⟩ | ⟨he, -⟩ | ⟨he, -⟩ | ⟨_, he, -⟩ | ⟨he, -⟩ := ownTurn_cases h
  all_goals cases he

/-- Settles O6: a step delivers an event, and no turn of the block itself is refused. -/
theorem onlyAccessesWithoutMeaningAreRefused : Obligations.OnlyAccessesWithoutMeaningAreRefused := by
  intro s r h
  obtain ⟨e, rest, hin, hstep⟩ | ⟨e, -, hturn, hstep⟩ | ⟨-, -, hstep⟩ := step_cases s
  · obtain ⟨bits, w, rfl, hmeaningless⟩ := deliver_refused_cases (hstep.symm.trans h)
    exact ⟨bits, w, rest, hin, hmeaningless⟩
  · obtain ⟨bits, w, rfl, -⟩ := deliver_refused_cases (hstep.symm.trans h)
    exact absurd hturn (ownTurn_ne_host s bits w)
  · cases hstep.symm.trans h

end Sys2Proof.Machine
end

section
/-! PROOFS. What a step can do, said once for every event: what a register transaction keeps and what it does to the error,
interrupt and phase registers; the transitions of the engine's phase; and the registers that no agent writes. -/

namespace Sys2Proof.Machine

/-! Register transactions -/

/-- Settles O23: by the four kinds of effect a transaction can have, none of which is on these fields. -/
theorem transactionsNeverTouchMemoryOrTables : Obligations.TransactionsNeverTouchMemoryOrTables := by
  intro i s t h
  obtain hreg | ⟨ci, co, -, -, -, rfl⟩ | ⟨-, -, rfl⟩ | ⟨p, n, f, rfl⟩ := exec_next_cases i s t h
  · rw [hreg]
    exact ⟨fun _ => rfl, rfl, rfl, rfl, rfl, rfl, rfl, rfl, rfl⟩
  · exact ⟨fun _ => rfl, rfl, rfl, rfl, rfl, rfl, rfl, rfl, rfl⟩
  · exact ⟨fun _ => rfl, rfl, rfl, rfl, rfl, rfl, rfl, rfl, rfl⟩
  · exact ⟨fun _ => rfl, rfl, rfl, rfl, rfl, rfl, rfl, rfl, rfl⟩

/-- Settles O24: with a frame in progress no context is stored and no frame accepted, and nothing else touches the frame. -/
theorem transactionsNeverChangeAFrameInProgress : Obligations.TransactionsNeverChangeAFrameInProgress := by
  intro i s t hbusy h
  obtain hreg | ⟨_, _, hidle, -⟩ | ⟨hidle, -⟩ | ⟨p, n, f, rfl⟩ := exec_next_cases i s t h
  · rw [hreg]
    exact ⟨rfl, rfl, rfl, rfl, rfl, rfl, rfl⟩
  · exact absurd hidle hbusy
  · exact absurd hidle hbusy
  · exact ⟨rfl, rfl, rfl, rfl, rfl, rfl, rfl⟩

/-- A write of `CMD` from 4 on is a cause of `IllegalCommand` (60_exceptions.md R178). -/
theorem records_illegalCommand {w : TWord} {d : Word} (hw : w = writeWord 0x004#12 d) (hd : 4 ≤ d.toNat) (s : State) :
    Records (.host 32 w) s .illegalCommand := by
  refine ⟨w, rfl, ?_⟩
  rw [hw, writeWord, TWord.we_ofFields, TWord.off_ofFields, TWord.data_ofFields]
  exact ⟨rfl, rfl, by omega⟩

/-- A command word above 0xFF names no command (43_control.md R148). -/
theorem le_toNat_of_highBytes {d : Word} (h : d.extractLsb' 8 24 ≠ 0) : 4 ≤ d.toNat := by
  by_contra hlt
  have hdiv : d.toNat >>> 8 = 0 := by rw [Nat.shiftRight_eq_div_pow]; omega
  exact h (BitVec.eq_of_toNat_eq (by rw [BitVec.extractLsb'_toNat, hdiv]; rfl))

/-- The errors that the checks of PROCESS raise (R176, R177). -/
theorem checkFrame_error {s : State} {c : ErrorCode} (h : checkFrame s = some c) :
    c = .unsupportedFormat ∨ c = .invalidFrame := by
  unfold checkFrame at h
  split_ifs at h
  all_goals
    cases h
    simp

/-- A failing check of an idle PROCESS is a cause of its error (R176, R177). -/
theorem records_of_checkFrame {w : TWord} {s : State} {c : ErrorCode} (hi : decode w = .cmdProcess)
    (hidle : s.phase = .idle) (hcheck : checkFrame s = some c) : Records (.host 32 w) s c := by
  have hfirst := ((checkFrame_decides s).some_iff c).1 hcheck
  obtain rfl | rfl := checkFrame_error hcheck
  · exact ⟨w, rfl, hidle, .inr ⟨hi, hfirst⟩⟩
  · exact ⟨w, rfl, hidle, hi, hfirst⟩

/-- A preset code that names no preset is a cause of `InvalidConfiguration` (R175). -/
theorem two_le_of_unknown {d : Word} (h : Preset.ofCode d = none) : 2 ≤ d.toNat := by
  obtain ⟨-, hknown⟩ | ⟨-, hknown⟩ | ⟨hge, -⟩ := Preset.ofCode_cases d
  · cases hknown.symm.trans h
  · cases hknown.symm.trans h
  · exact hge

/-- The phase, the error code and the interrupt registers are as they were. -/
structure SameControl (s t : State) : Prop where
  phase : t.phase = s.phase
  errCode : t.errCode = s.errCode
  intDone : t.intDone = s.intDone
  intErr : t.intErr = s.intErr
  doneEn : t.doneEn = s.doneEn
  errEn : t.errEn = s.errEn

/-- Everything a register transaction can do to the phase, the error code and the interrupt registers: nothing, the
recording of an error by one of its causes, CLEAR_ERROR, a write of an interrupt register, or the acceptance of a frame. -/
theorem exec_control_cases {w : TWord} {s t : State} (h : exec (decode w) s = .next t) :
    SameControl s t ∨
    (∃ c, Records (.host 32 w) s c ∧ t = recordError c s) ∨
    (decode w = .cmdClearError ∧ t = clearError s) ∨
    (∃ d, decode w = .wrIntStatus d ∧ t = clearInterrupts (doneBit d) (errBit d) s) ∨
    (∃ d, decode w = .wrIntEnable d ∧ t = { s with doneEn := doneBit d, errEn := errBit d }) ∨
    (decode w = .cmdProcess ∧ s.phase = .idle ∧ checkFrame s = none ∧ t = latchFrame s) := by
  have hwf := (everyWordIsOneTransaction w).1
  cases hi : decode w
  all_goals rw [hi] at h
  case cmdNegotiate =>
    obtain ⟨-, h'⟩ | ⟨hidle, hfails, h'⟩ | ⟨_, _, -, -, -, -, -, h'⟩ := execCmdNegotiate_cases s
    · cases h'.symm.trans h; exact .inl ⟨rfl, rfl, rfl, rfl, rfl, rfl⟩
    · cases h'.symm.trans h
      exact .inr (.inl ⟨.unsupportedFormat,
        ⟨w, rfl, (busy_false_iff s).1 hidle, .inl ⟨hi, (negotiateFails_iff s).2 hfails⟩⟩, rfl⟩)
    · cases h'.symm.trans h; exact .inl ⟨rfl, rfl, rfl, rfl, rfl, rfl⟩
  case cmdProcess =>
    obtain ⟨-, h'⟩ | ⟨c, hidle, hcheck, h'⟩ | ⟨hidle, hcheck, h'⟩ := execCmdProcess_cases s
    · cases h'.symm.trans h; exact .inl ⟨rfl, rfl, rfl, rfl, rfl, rfl⟩
    · cases h'.symm.trans h
      exact .inr (.inl ⟨c, records_of_checkFrame hi ((busy_false_iff s).1 hidle) hcheck, rfl⟩)
    · cases h'.symm.trans h
      exact .inr (.inr (.inr (.inr (.inr ⟨rfl, (busy_false_iff s).1 hidle, hcheck, rfl⟩))))
  case cmdClearError => cases h; exact .inr (.inr (.inl ⟨rfl, rfl⟩))
  case wrIntStatus d => cases h; exact .inr (.inr (.inr (.inl ⟨d, rfl, rfl⟩)))
  case wrIntEnable d => cases h; exact .inr (.inr (.inr (.inr (.inl ⟨d, rfl, rfl⟩))))
  case wrPreset d =>
    obtain ⟨_, -, h'⟩ | ⟨hunknown, h'⟩ := execWrPreset_cases d s
    · cases h'.symm.trans h; exact .inl ⟨rfl, rfl, rfl, rfl, rfl, rfl⟩
    · cases h'.symm.trans h
      exact .inr (.inl ⟨.invalidConfiguration, ⟨w, d, rfl, hi, two_le_of_unknown hunknown⟩, rfl⟩)
  case cmdIllegal04 lo | cmdIllegal08 lo | cmdIllegal10 lo | cmdIllegal20 lo | cmdIllegal40 lo | cmdIllegal80 lo =>
    cases h
    exact .inr (.inl ⟨.illegalCommand, records_illegalCommand (eq_encode_of_decode hi)
      (by rw [toNat_append_eq, BitVec.toNat_ofNat]; omega) s, rfl⟩)
  case cmdIllegalHigh d =>
    cases h
    rw [hi] at hwf
    exact .inr (.inl ⟨.illegalCommand, records_illegalCommand (eq_encode_of_decode hi)
      (le_toNat_of_highBytes (of_decide_eq_true hwf)) s, rfl⟩)
  case unmapped050 we _ _ | unmapped060 we _ _ | unmapped080 we _ _ | unmapped100 we _ _ | unmapped200 we _ _ |
      unmapped400 we _ _ | unmapped800 we _ _ =>
    obtain ⟨-, rfl⟩ | ⟨-, rfl⟩ := unmappedAccess_cases we s t h
    · exact .inl ⟨rfl, rfl, rfl, rfl, rfl, rfl⟩
    · exact .inl ⟨rfl, rfl, rfl, rfl, rfl, rfl⟩
  case misaligned01 | misaligned10 | misaligned11 => cases h
  all_goals cases h; exact .inl ⟨rfl, rfl, rfl, rfl, rfl, rfl⟩

/-! The transitions of the engine's phase -/

/-- Everything an event can do to the engine's phase: nothing; the acceptance of a frame; its publication at the fence; an
error response, which aborts it; its end; and the reset input (42_frame_transform.md R126, R130; 60_exceptions.md R185). -/
theorem deliver_phase_cases {e : Event} {s t : State} (h : deliver e s = .next t) :
    t.phase = s.phase ∨
    (∃ w, e = .host 32 w ∧ decode w = .cmdProcess ∧ s.phase = .idle ∧ checkFrame s = none ∧ t = latchFrame s) ∨
    (e = .publish ∧ s.phase = .fenced ∧ s.buildBusy = false ∧ t.phase = .running) ∨
    (s.phase = .running ∧ t.phase = .aborting ∧
      ((∃ x y picks, e = .pixel x y picks .error) ∨ ∃ k, e = .complete k .error)) ∨
    (e = .finish ∧ s.phase ≠ .idle ∧ t.phase = .idle) ∨
    (e = .reset ∧ t.phase = .idle) := by
  cases e
  case host bits w =>
    obtain ⟨rfl, hexec⟩ | ⟨-, hrefused⟩ := hostTransaction_cases bits w s
    · obtain hsame | ⟨_, -, rfl⟩ | ⟨-, rfl⟩ | ⟨_, -, rfl⟩ | ⟨_, -, rfl⟩ | ⟨hi, hidle, hcheck, rfl⟩ :=
        exec_control_cases (hexec.symm.trans h)
      case inr.inr.inr.inr.inr => exact .inr (.inl ⟨w, rfl, hi, hidle, hcheck, rfl⟩)
      case inl => exact .inl hsame.phase
      all_goals exact .inl rfl
    · cases hrefused.symm.trans h
  case hostStore => cases h; exact .inl rfl
  case hostLoad a =>
    cases h
    obtain hstep | hstep := hostLoadStep_cases a s
    all_goals rw [hstep]; exact .inl rfl
  case build =>
    cases h
    obtain ⟨-, hstep⟩ | ⟨-, hstep⟩ := buildStep_cases s
    all_goals rw [hstep]; exact .inl rfl
  case publish =>
    cases h
    obtain ⟨-, hstep⟩ | ⟨hfenced, hbuilt, -, hstep⟩ | ⟨hfenced, hbuilt, -, hstep⟩ := publishStep_cases s
    · rw [hstep]; exact .inl rfl
    all_goals rw [hstep]; exact .inr (.inr (.inl ⟨rfl, hfenced, hbuilt, rfl⟩))
  case pixel x y picks reply =>
    obtain ⟨-, hstep⟩ | ⟨-, -, hstep⟩ | ⟨hen, rfl, hstep⟩ | ⟨-, -, hstep⟩ := pixelStep_cases (x, y) picks reply s
    all_goals cases hstep.symm.trans h
    · exact .inl rfl
    · exact .inr (.inr (.inr (.inl ⟨((pixelEnabled_iff s _).1 hen).1, rfl, .inl ⟨x, y, picks, rfl⟩⟩)))
    · exact .inl rfl
  case complete k reply =>
    cases h
    obtain ⟨hstep, -⟩ | ⟨_, -, -, -, hstep⟩ | ⟨_, hbus, -, rfl, hstep⟩ := completeStep_cases k reply s
    · rw [hstep]; exact .inl rfl
    · rw [hstep]; exact .inl rfl
    · rw [hstep]
      obtain hrunning | haborting := (onTheBus_iff s).1 hbus
      · exact .inr (.inr (.inr (.inl ⟨hrunning, rfl, .inr ⟨k, rfl⟩⟩)))
      · exact .inl haborting.symm
  case finish =>
    cases h
    obtain hstep | ⟨-, hphase, -, hstep⟩ | ⟨-, hphase, hstep⟩ := finishStep_cases s
    · rw [hstep]; exact .inl rfl
    all_goals rw [hstep]; exact .inr (.inr (.inr (.inr (.inl ⟨rfl, by simp [hphase], rfl⟩))))
  case reset => cases h; exact .inr (.inr (.inr (.inr (.inr ⟨rfl, rfl⟩))))

/-! The registers that no agent writes -/

/-- Everything an event can do to the registers: a transaction's effect; the reset; the end of a frame; else nothing but to
the fields the block's agents and the memory's ports work on. -/
theorem deliver_register_cases {e : Event} {s t : State} (h : deliver e s = .next t) :
    (∃ w, e = .host 32 w ∧ exec (decode w) s = .next t) ∨
    (e = .reset ∧ t = resetStep s) ∨
    (e = .finish ∧ s.inflight = [] ∧ s.phase = .running ∧ s.nextPixel = none ∧ t = completeFrame s) ∨
    (e = .finish ∧ s.inflight = [] ∧ s.phase = .aborting ∧ t = abortFrame s) ∨
    ((∀ w, e ≠ .host 32 w) ∧ e ≠ .reset ∧ t = { s with
      phase := t.phase, buildBusy := t.buildBusy, lutActive := t.lutActive, lutShadow := t.lutShadow
      donePx := t.donePx, inflight := t.inflight, mem := t.mem, hostByte := t.hostByte, raced := t.raced
      freeCount := t.freeCount }) := by
  cases e
  case host bits w =>
    obtain ⟨rfl, hexec⟩ | ⟨-, hrefused⟩ := hostTransaction_cases bits w s
    · exact .inl ⟨w, rfl, hexec.symm.trans h⟩
    · cases hrefused.symm.trans h
  case reset => cases h; exact .inr (.inl ⟨rfl, rfl⟩)
  case finish =>
    cases h
    obtain hstep | ⟨hflight, hphase, hnext, hstep⟩ | ⟨hflight, hphase, hstep⟩ := finishStep_cases s
    · rw [hstep]; exact .inr (.inr (.inr (.inr ⟨by simp, by simp, rfl⟩)))
    · exact .inr (.inr (.inl ⟨rfl, hflight, hphase, hnext, hstep⟩))
    · exact .inr (.inr (.inr (.inl ⟨rfl, hflight, hphase, hstep⟩)))
  all_goals refine .inr (.inr (.inr (.inr ⟨by simp, by simp, ?_⟩)))
  case hostStore => cases h; rfl
  case hostLoad a =>
    cases h
    obtain hstep | hstep := hostLoadStep_cases a s
    all_goals rw [hstep]
  case build =>
    cases h
    obtain ⟨-, hstep⟩ | ⟨-, hstep⟩ := buildStep_cases s
    all_goals rw [hstep]
  case publish =>
    cases h
    obtain ⟨-, hstep⟩ | ⟨-, -, -, hstep⟩ | ⟨-, -, -, hstep⟩ := publishStep_cases s
    all_goals rw [hstep]
  case pixel x y picks reply =>
    obtain ⟨-, hstep⟩ | ⟨-, -, hstep⟩ | ⟨-, -, hstep⟩ | ⟨-, -, hstep⟩ := pixelStep_cases (x, y) picks reply s
    · cases hstep.symm.trans h; rfl
    · cases hstep.symm.trans h
    · cases hstep.symm.trans h; rfl
    · cases hstep.symm.trans h; rfl
  case complete k reply =>
    cases h
    obtain ⟨hstep, -⟩ | ⟨_, -, -, -, hstep⟩ | ⟨_, -, -, -, hstep⟩ := completeStep_cases k reply s
    all_goals rw [hstep]

/-! The engine off the bus (20_memory.md R58): with no frame, or at the fence, only publication is enabled -/

theorem offTheBus_iff (s : State) : s.onTheBus = false ↔ s.phase = .idle ∨ s.phase = .fenced := by
  rw [← Bool.not_eq_true, onTheBus_iff]
  cases s.phase
  all_goals decide

section OffTheBus
variable {s : State} (hoff : s.onTheBus = false)
include hoff

theorem pixelStep_of_off (p : Pixel) (picks : List Nat) (reply : BusReply) : pixelStep p picks reply s = .next s := by
  refine if_pos ?_
  rw [← Bool.not_eq_true, pixelEnabled_iff]
  rintro ⟨hrunning, -⟩
  cases hoff.symm.trans ((onTheBus_iff s).2 (.inl hrunning))

theorem completeStep_of_off (k : Nat) (reply : BusReply) : completeStep k reply s = s := by
  rw [completeStep, hoff, if_neg Bool.false_ne_true]

theorem finishStep_of_off : finishStep s = s := by
  obtain hstep | ⟨-, hrunning, -⟩ | ⟨-, haborting, -⟩ := finishStep_cases s
  · exact hstep
  · cases hoff.symm.trans ((onTheBus_iff s).2 (.inl hrunning))
  · cases hoff.symm.trans ((onTheBus_iff s).2 (.inr haborting))

end OffTheBus

/-- Away from the fence, publication is not enabled (40_configuration.md R98). -/
theorem publishStep_of_not_fenced {s : State} (h : s.phase ≠ .fenced) : publishStep s = s :=
  if_neg fun hfence => h hfence.1

/-! The statements -/

/-- Settles O25: of the phase's transitions only the acceptance leaves the idle phase for another. -/
theorem onlyAnAcceptedProcessStartsAFrame : Obligations.OnlyAnAcceptedProcessStartsAFrame := by
  intro e s t hidle h hbusy
  obtain hsame | ⟨w, rfl, hi, -, hcheck, rfl⟩ | ⟨-, hfenced, -⟩ | ⟨hrunning, -⟩ | ⟨-, hne, -⟩ | ⟨-, hend⟩ :=
    deliver_phase_cases h
  · exact absurd (hsame.trans hidle) hbusy
  · exact ⟨⟨w, rfl, hi⟩, (checkFrame_decides s).none_iff.1 hcheck, rfl⟩
  · cases hidle.symm.trans hfenced
  · cases hidle.symm.trans hrunning
  · exact absurd hidle hne
  · exact absurd hend hbusy

/-- Settles O26: by what the event can do to the registers; an error is recorded by a cause of it, and only CLEAR_ERROR and
the reset input take the code back. -/
theorem errorCodeIsSticky : Obligations.ErrorCodeIsSticky := by
  intro e s t h hchanged
  obtain ⟨w, rfl, hexec⟩ | ⟨rfl, rfl⟩ | ⟨-, -, -, -, rfl⟩ | ⟨rfl, hflight, haborting, rfl⟩ | ⟨-, -, hkept⟩ :=
    deliver_register_cases h
  case inr.inl => exact .inr ⟨rfl, .inl rfl⟩
  case inr.inr.inl => simp at hchanged
  case inr.inr.inr.inl => exact .inl ⟨⟨rfl, haborting, hflight⟩, rfl⟩
  case inr.inr.inr.inr =>
    have hcode : t.errCode = s.errCode := by rw [hkept]
    have herr : t.intErr = s.intErr := by rw [hkept]
    simp [hcode, herr] at hchanged
  case inl =>
    obtain hsame | ⟨c, hcause, rfl⟩ | ⟨hi, rfl⟩ | ⟨d, -, rfl⟩ | ⟨d, -, rfl⟩ | ⟨-, -, -, rfl⟩ := exec_control_cases hexec
    · simp [hsame.errCode, hsame.intErr] at hchanged
    · exact .inl ⟨hcause, rfl⟩
    · exact .inr ⟨rfl, .inr ⟨w, rfl, hi⟩⟩
    · obtain hcode | ⟨hclear, hset⟩ := hchanged
      · exact absurd rfl hcode
      · cases hclear.symm.trans (Bool.and_eq_true_iff.1 hset).1
    · simp at hchanged
    · simp at hchanged

/-- Each cause in a transaction records its error and does nothing else (60_exceptions.md R181). -/
theorem exec_of_records {w : TWord} {s : State} {c : ErrorCode} (h : Records (.host 32 w) s c) :
    exec (decode w) s = .next { s with errCode := c, intErr := true } := by
  cases c
  case none => exact h.elim
  case invalidConfiguration =>
    obtain ⟨_, d, ⟨⟩, hi, hd⟩ := h
    rw [hi, exec_wrPreset]
    obtain ⟨rfl, -⟩ | ⟨rfl, -⟩ | ⟨-, hunknown⟩ := Preset.ofCode_cases d
    · exact absurd hd (by decide)
    · exact absurd hd (by decide)
    · exact execWrPreset_of_unknown hunknown s
  case unsupportedFormat =>
    obtain ⟨_, ⟨⟩, hidle, ⟨hi, hfails⟩ | ⟨hi, hfirst⟩⟩ := h
    · rw [hi, exec_cmdNegotiate, execCmdNegotiate_of_fails hidle hfails]
    · rw [hi, exec_cmdProcess, execCmdProcess_of_fails hidle (((checkFrame_decides s).some_iff _).2 hfirst)]
  case invalidFrame =>
    obtain ⟨_, ⟨⟩, hidle, hi, hfirst⟩ := h
    rw [hi, exec_cmdProcess, execCmdProcess_of_fails hidle (((checkFrame_decides s).some_iff _).2 hfirst)]
  case illegalCommand =>
    obtain ⟨_, ⟨⟩, hwe, hoff, hd⟩ := h
    rw [← TWord.ofFields_fields w, hwe, hoff]
    exact illegalCommandWordsRaise.1 w.data s hd
  case busError =>
    obtain ⟨he, -⟩ := h
    cases he

/-- Settles O27: a cause is a transaction, or the end of an abort; and of the phase's transitions only an error response
leads to an abort. -/
theorem eachCauseRecordsItsError : Obligations.EachCauseRecordsItsError := by
  refine ⟨fun e s c hcause => ?_, fun e s t h hnot haborting => ?_⟩
  · by_cases hhost : ∃ w, e = .host 32 w
    · obtain ⟨w, rfl⟩ := hhost
      exact ⟨_, exec_of_records hcause, rfl, rfl, fun _ => rfl⟩
    · cases c
      case none => exact hcause.elim
      case busError =>
        obtain ⟨rfl, haborting, hflight⟩ := hcause
        refine ⟨abortFrame s, congrArg Host.Outcome.next (finishStep_of_aborting haborting hflight),
          abortFrame_errCode s, rfl, fun hne => absurd rfl hne⟩
      case invalidConfiguration =>
        obtain ⟨w, _, he, -⟩ := hcause
        exact absurd ⟨w, he⟩ hhost
      case unsupportedFormat | invalidFrame | illegalCommand =>
        obtain ⟨w, he, -⟩ := hcause
        exact absurd ⟨w, he⟩ hhost
  · obtain hsame | ⟨w, -, -, -, -, rfl⟩ | ⟨-, -, -, hrunning⟩ | ⟨hrunning, -, hevent⟩ | ⟨-, -, hidle⟩ | ⟨-, hidle⟩ :=
      deliver_phase_cases h
    · exact absurd (hsame.symm.trans haborting) hnot
    · cases haborting
    · cases hrunning.symm.trans haborting
    · exact ⟨hrunning, hevent⟩
    · cases hidle.symm.trans haborting
    · cases hidle.symm.trans haborting

theorem irq_iff (s : State) :
    s.irq = true ↔ (s.intDone = true ∧ s.doneEn = true) ∨ (s.intErr = true ∧ s.errEn = true) := by
  simp [State.irq]

/-- The output stays asserted where no cause and no enable is taken back (R189). -/
theorem irq_mono {s t : State} (hirq : s.irq = true) (hdone : s.intDone = true → t.intDone = true)
    (herr : s.intErr = true → t.intErr = true) (hdoneEn : t.doneEn = s.doneEn) (herrEn : t.errEn = s.errEn) :
    t.irq = true := by
  rw [irq_iff] at hirq ⊢
  rw [hdoneEn, herrEn]
  exact hirq.imp (.imp_left hdone) (.imp_left herr)

/-- Settles O28: whatever the event does to the registers, only the named writes and the reset take a cause or an enable
back. -/
theorem interruptOutputIsLevelAndStays : Obligations.InterruptOutputIsLevelAndStays := by
  refine ⟨irq_iff, fun e s t hirq h => ?_⟩
  obtain ⟨w, rfl, hexec⟩ | ⟨rfl, -⟩ | ⟨-, -, -, -, rfl⟩ | ⟨-, -, -, rfl⟩ | ⟨-, -, hkept⟩ := deliver_register_cases h
  case inr.inl => exact .inr (.inl rfl)
  case inr.inr.inl => exact .inl (irq_mono hirq (fun _ => rfl) id rfl rfl)
  case inr.inr.inr.inl => exact .inl (irq_mono hirq id (fun _ => rfl) rfl rfl)
  case inr.inr.inr.inr =>
    rw [hkept]
    exact .inl (irq_mono hirq id id rfl rfl)
  case inl =>
    obtain hsame | ⟨c, -, rfl⟩ | ⟨-, rfl⟩ | ⟨d, hi, -⟩ | ⟨d, hi, -⟩ | ⟨-, -, -, rfl⟩ := exec_control_cases hexec
    · exact .inl (irq_mono hirq hsame.intDone.trans hsame.intErr.trans hsame.doneEn hsame.errEn)
    · exact .inl (irq_mono hirq id (fun _ => rfl) rfl rfl)
    · exact .inl (irq_mono hirq id id rfl rfl)
    · exact .inr (.inr ⟨w, d, rfl, .inl hi⟩)
    · exact .inr (.inr ⟨w, d, rfl, .inr hi⟩)
    · exact .inl (irq_mono hirq id id rfl rfl)

/-- No register transaction sets `INT_STATUS.DONE`. -/
theorem exec_intDone {w : TWord} {s t : State} (h : exec (decode w) s = .next t) (hdone : t.intDone = true) :
    s.intDone = true := by
  obtain hsame | ⟨c, -, rfl⟩ | ⟨-, rfl⟩ | ⟨d, -, rfl⟩ | ⟨d, -, rfl⟩ | ⟨-, -, -, rfl⟩ := exec_control_cases h
  · exact hsame.intDone.symm.trans hdone
  · exact hdone
  · exact hdone
  · exact (Bool.and_eq_true_iff.1 hdone).1
  · exact hdone
  · exact hdone

/-- Settles O29: of what an event can do to the registers, only the completion sets `DONE`. -/
theorem doneIsSetOnlyByCompletion : Obligations.DoneIsSetOnlyByCompletion := by
  intro e s t h hclear hset
  obtain ⟨w, rfl, hexec⟩ | ⟨rfl, rfl⟩ | ⟨he, hflight, hrunning, hnext, rfl⟩ | ⟨-, -, -, rfl⟩ | ⟨-, -, hkept⟩ :=
    deliver_register_cases h
  · cases hclear.symm.trans (exec_intDone hexec hset)
  · cases hset
  · exact ⟨he, hrunning, hflight, (nextPixel_eq_none s).1 hnext, rfl⟩
  · cases hclear.symm.trans hset
  · cases hclear.symm.trans ((congrArg State.intDone hkept).symm.trans hset)

/-- No event writes the palette ROM (10_state.md R48). -/
theorem deliver_jetRom {e : Event} {s t : State} (h : deliver e s = .next t) : t.jetRom = s.jetRom := by
  obtain ⟨w, -, hexec⟩ | ⟨-, rfl⟩ | ⟨-, -, -, -, rfl⟩ | ⟨-, -, -, rfl⟩ | ⟨-, -, hkept⟩ := deliver_register_cases h
  · obtain ⟨-, -, -, -, -, hrom, -⟩ := transactionsNeverTouchMemoryOrTables _ s t hexec
    exact hrom
  · rfl
  · rfl
  · rfl
  · rw [hkept]

/-- What every event keeps, whatever events are still to come, every step keeps. -/
theorem step_keeps {P : State → Prop} (hinputs : ∀ s rest, P s → P { s with inputs := rest })
    (hdeliver : ∀ e s t, P s → deliver e s = .next t → P t) {s t : State} (hs : P s) (h : step s = .next t) : P t := by
  obtain ⟨e, rest, -, hstep⟩ | ⟨e, -, -, hstep⟩ | ⟨-, -, hstep⟩ := step_cases s
  · exact hdeliver e _ t (hinputs s rest hs) (hstep.symm.trans h)
  · exact hdeliver e s t hs (hstep.symm.trans h)
  · cases hstep.symm.trans h
    exact hs

/-- Settles O32: holding a given table is kept by every event. -/
theorem paletteRomIsReadOnly : Obligations.PaletteRomIsReadOnly := fun s _ h =>
  step_keeps (P := fun u => u.jetRom = s.jetRom) (fun _ _ hu => hu)
    (fun _ _ _ hu hdeliver => (deliver_jetRom hdeliver).trans hu) rfl h

end Sys2Proof.Machine
end

section
/-! PROOFS. The builder and the table invariant (40_configuration.md R93 to R100). -/

namespace Sys2Proof.Machine

/-- A build in progress completes (R97). -/
theorem buildStep_of_busy {s : State} (h : s.buildBusy = true) :
    buildStep s = { s with lutShadow := buildTable s.buildPreset s.jetRom s.lutShadow, buildBusy := false } := by
  obtain ⟨hnot, -⟩ | ⟨-, hstep⟩ := buildStep_cases s
  · cases hnot.symm.trans h
  · exact hstep

/-- Without a build in progress the builder does nothing (R97). -/
theorem buildStep_of_not_busy {s : State} (h : s.buildBusy = false) : buildStep s = s := by
  obtain ⟨-, hstep⟩ | ⟨hbusy, -⟩ := buildStep_cases s
  · exact hstep
  · cases h.symm.trans hbusy

/-- A build over the palette ROM leaves the palette ROM (R94, R95). -/
theorem buildTable_rom (p : Option Preset) (rom : Lut) : buildTable p rom rom = rom := by
  obtain _ | _ | _ := p
  all_goals rfl

/-- Settles O34, by whether a build is in progress; the table is the one its preset names. -/
theorem builderFillsTheShadowBank : Obligations.BuilderFillsTheShadowBank := by
  refine fun s => ⟨fun hnot => congrArg Host.Outcome.next (buildStep_of_not_busy hnot), fun hbusy =>
    ⟨_, congrArg Host.Outcome.next (buildStep_of_busy hbusy), rfl, fun hjet i => ?_, fun hnone => ?_⟩⟩
  · show lookup (buildTable s.buildPreset s.jetRom s.lutShadow) i = _
    rw [hjet]
    rfl
  · show buildTable s.buildPreset s.jetRom s.lutShadow = _
    rw [hnone]
    rfl

/-- Settles O38: the shadow bank is the ROM after the build; the active bank matters only where a JET frame is running. -/
theorem jetBuildEstablishesTheTableInvariant : Obligations.JetBuildEstablishesTheTableInvariant := by
  intro s t hbusy hjet h
  have hshadow : buildTable s.buildPreset s.jetRom s.lutShadow = s.jetRom := by rw [hjet]; rfl
  have hstep : buildStep s = { s with lutShadow := s.jetRom, buildBusy := false } := by
    rw [buildStep_of_busy hbusy, hshadow]
  cases h
  rw [hstep]
  refine ⟨fun _ => rfl, rfl, fun hactive => ⟨rfl, fun hrunning hpreset => ?_⟩⟩
  by_contra hne
  exact hactive ⟨hrunning, hpreset, hne⟩

/-- With the build over, the engine passes the fence with the frame it has (R98). -/
theorem publishStep_passes {s : State} (hfenced : s.phase = .fenced) (hbuilt : s.buildBusy = false) :
    (publishStep s).phase = .running ∧ (publishStep s).buildBusy = false ∧ (publishStep s).frame = s.frame := by
  cases hpreset : s.frame.preset
  case jet => rw [publishStep_of_jet hfenced hbuilt hpreset]; exact ⟨rfl, hbuilt, rfl⟩
  case none => rw [publishStep_of_none hfenced hbuilt hpreset]; exact ⟨rfl, hbuilt, rfl⟩

/-- Settles O35: at the fence with a build in progress no agent's step is enabled but the builder's, which opens the fence. -/
theorem pixelWorkWaitsForTheBuild : Obligations.PixelWorkWaitsForTheBuild := by
  refine ⟨fun e s t hfenced hbuild hreset h => ?stays, fun s hfenced hbuild => ?passes⟩
  case stays =>
    have hoff := (offTheBus_iff s).2 (.inr hfenced)
    cases e
    case host bits w =>
      obtain ⟨-, hexec⟩ | ⟨-, hrefused⟩ := hostTransaction_cases bits w s
      · obtain ⟨hphase, hframe, hdone, hflight, -, -, hactive⟩ :=
          transactionsNeverChangeAFrameInProgress _ s t (by simp [hfenced]) (hexec.symm.trans h)
        exact ⟨hphase.trans hfenced, hframe, hdone, hflight, hactive⟩
      · cases hrefused.symm.trans h
    case hostStore => cases h; exact ⟨hfenced, rfl, rfl, rfl, rfl⟩
    case hostLoad a =>
      cases h
      obtain hstep | hstep := hostLoadStep_cases a s
      all_goals rw [hstep]; exact ⟨hfenced, rfl, rfl, rfl, rfl⟩
    case build => cases h; rw [buildStep_of_busy hbuild]; exact ⟨hfenced, rfl, rfl, rfl, rfl⟩
    case publish =>
      cases h
      obtain ⟨-, hstep⟩ | ⟨-, hbuilt, -⟩ | ⟨-, hbuilt, -⟩ := publishStep_cases s
      · rw [hstep]; exact ⟨hfenced, rfl, rfl, rfl, rfl⟩
      · cases hbuild.symm.trans hbuilt
      · cases hbuild.symm.trans hbuilt
    case pixel x y picks reply =>
      cases (pixelStep_of_off hoff _ picks reply).symm.trans h
      exact ⟨hfenced, rfl, rfl, rfl, rfl⟩
    case complete k reply =>
      cases h
      rw [completeStep_of_off hoff]
      exact ⟨hfenced, rfl, rfl, rfl, rfl⟩
    case finish =>
      cases h
      rw [finishStep_of_off hoff]
      exact ⟨hfenced, rfl, rfl, rfl, rfl⟩
    case reset => exact absurd rfl hreset
  case passes =>
    have hstep := buildStep_of_busy hbuild
    have hfence : (buildStep s).phase = .fenced := by rw [hstep, hfenced]
    have hbuilt : (buildStep s).buildBusy = false := by rw [hstep]
    have hframe : (buildStep s).frame = s.frame := by rw [hstep]
    obtain ⟨hrunning, hbuilt', hframe'⟩ := publishStep_passes hfence hbuilt
    exact ⟨_, _, rfl, rfl, hrunning, hbuilt', hframe'.trans hframe⟩

/-! The table invariant -/

/-- A register transaction touches no bank, and a frame it accepts is not yet running (R99). -/
theorem tableInv_exec {i : Instr} {s t : State} (hs : TableInv s) (h : exec i s = .next t) : TableInv t := by
  obtain hreg | ⟨_, _, -, -, -, rfl⟩ | ⟨-, -, rfl⟩ | ⟨_, _, _, rfl⟩ := exec_next_cases i s t h
  · rw [hreg]; exact hs
  · exact hs
  · exact ⟨hs.1, fun hrunning => by cases hrunning⟩
  · exact hs

/-- A build keeps the palette ROM in the shadow bank, and the publication copies it (R94, R99). -/
theorem tableInv_deliver {e : Event} {s t : State} (hs : TableInv s) (h : deliver e s = .next t) : TableInv t := by
  have hshadow := hs.1
  cases e
  case host bits w =>
    obtain ⟨-, hexec⟩ | ⟨-, hrefused⟩ := hostTransaction_cases bits w s
    · exact tableInv_exec hs (hexec.symm.trans h)
    · cases hrefused.symm.trans h
  case hostStore => cases h; exact hs
  case hostLoad a =>
    cases h
    obtain hstep | hstep := hostLoadStep_cases a s
    all_goals rw [hstep]; exact hs
  case build =>
    cases h
    obtain ⟨-, hstep⟩ | ⟨-, hstep⟩ := buildStep_cases s
    · rw [hstep]; exact hs
    · rw [hstep, hshadow]
      exact ⟨buildTable_rom s.buildPreset s.jetRom, hs.2⟩
  case publish =>
    cases h
    obtain ⟨-, hstep⟩ | ⟨-, -, -, hstep⟩ | ⟨-, -, hnone, hstep⟩ := publishStep_cases s
    · rw [hstep]; exact hs
    · rw [hstep]; exact ⟨hshadow, fun _ _ => hshadow⟩
    · rw [hstep]; exact ⟨hshadow, fun _ hjet => by cases hnone.symm.trans hjet⟩
  case pixel x y picks reply =>
    obtain ⟨-, hstep⟩ | ⟨-, -, hstep⟩ | ⟨-, -, hstep⟩ | ⟨-, -, hstep⟩ := pixelStep_cases (x, y) picks reply s
    all_goals cases hstep.symm.trans h
    · exact hs
    · exact ⟨hshadow, fun hrunning => by cases hrunning⟩
    · exact hs
  case complete k reply =>
    cases h
    obtain ⟨hstep, -⟩ | ⟨_, -, -, -, hstep⟩ | ⟨_, -, -, -, hstep⟩ := completeStep_cases k reply s
    · rw [hstep]; exact hs
    · rw [hstep]; exact hs
    · rw [hstep]; exact ⟨hshadow, fun hrunning => by cases hrunning⟩
  case finish =>
    cases h
    obtain hstep | ⟨-, -, -, hstep⟩ | ⟨-, -, hstep⟩ := finishStep_cases s
    · rw [hstep]; exact hs
    · rw [hstep]; exact ⟨hshadow, fun hrunning => by cases hrunning⟩
    · rw [hstep]; exact ⟨hshadow, fun hrunning => by cases hrunning⟩
  case reset => cases h; exact ⟨rfl, fun hrunning => by cases hrunning⟩

/-- Settles O37: every event keeps the invariant, and it does not depend on the events to come. -/
theorem tableInvariantIsKept : Obligations.TableInvariantIsKept := fun _ _ hs h =>
  step_keeps (fun _ _ hu => hu) (fun _ _ _ => tableInv_deliver) hs h

end Sys2Proof.Machine
end

section
/-! PROOFS. The block's invariant (10_state.md R35, R51, R54; 42_frame_transform.md R125, R145; 40_configuration.md R96, R97):
every event keeps it, and under it no engine access leaves frame memory. -/

namespace Sys2Proof.Machine

theorem toNat_pos_of_ne_zero {x : Half} (h : x ≠ 0) : 0 < x.toNat :=
  Nat.pos_of_ne_zero fun h0 => h (BitVec.eq_of_toNat_eq h0)

/-! What each event keeps -/

theorem blockInv_exec {i : Instr} {s t : State} (hs : BlockInv s) (h : exec i s = .next t) : BlockInv t := by
  obtain hreg | ⟨_, _, -, hwidth, hheight, rfl⟩ | ⟨hidle, hcheck, rfl⟩ | ⟨_, _, _, rfl⟩ := exec_next_cases i s t h
  · rw [hreg]
    exact { hs with }
  · exact { hs with context := fun _ => ⟨toNat_pos_of_ne_zero hwidth, toNat_pos_of_ne_zero hheight⟩ }
  · obtain ⟨hneg, -⟩ := checkFrame_eq_none s hcheck
    obtain ⟨hwidth, hheight⟩ := hs.context hneg
    have hflight := hs.quiet_bus (.inl hidle)
    exact { hs with
      frame_ok := fun _ => latched_ok s hcheck hwidth hheight
      done_nodup := List.nodup_nil
      done_in_frame := by simp
      fence_fresh := fun _ => rfl
      quiet_bus := fun _ => hflight
      inflight_dst := by simp [hflight] }
  · exact { hs with
      build_current := fun _ => rfl
      shadow_built := fun _ hbuilt => by cases hbuilt }

/-- A stored byte keeps memory canonical: a host store's address is a word. -/
theorem blockInv_hostStore {s : State} (a : Word) (v : Byte) (hs : BlockInv s) : BlockInv (hostStoreStep a v s) :=
  { hs with mem_wf := writeByte_wf s.mem a.toNat v hs.mem_wf a.isLt }

theorem blockInv_hostLoad {s : State} (a : Word) (hs : BlockInv s) : BlockInv (hostLoadStep a s) := by
  obtain hstep | hstep := hostLoadStep_cases a s
  all_goals rw [hstep]; exact { hs with }

/-- The builder works for the current preset, so a JET build leaves the palette ROM (R96, R97). -/
theorem blockInv_build {s : State} (hs : BlockInv s) : BlockInv (buildStep s) := by
  obtain ⟨-, hstep⟩ | ⟨hbusy, hstep⟩ := buildStep_cases s
  · rw [hstep]; exact hs
  · rw [hstep]
    have hbuilt (hjet : s.preset = .jet) : buildTable s.buildPreset s.jetRom s.lutShadow = s.jetRom := by
      rw [hs.build_current hbusy, hjet]
      rfl
    exact { hs with
      build_current := fun h => by cases h
      shadow_built := fun hjet _ => hbuilt hjet }

/-- A frame in the running phase has what it had at the fence. -/
theorem blockInv_publish {s : State} (hs : BlockInv s) : BlockInv (publishStep s) := by
  obtain ⟨-, hstep⟩ | ⟨hfenced, -, -, hstep⟩ | ⟨hfenced, -, -, hstep⟩ := publishStep_cases s
  · rw [hstep]; exact hs
  all_goals
    rw [hstep]
    exact { hs with
      frame_ok := fun _ => hs.frame_ok (by simp [hfenced])
      fence_fresh := fun h => by cases h
      quiet_bus := fun _ => hs.quiet_bus (.inr hfenced) }

/-- An error response leaves all but the phase (60_exceptions.md R185). -/
theorem blockInv_aborting {s : State} (hs : BlockInv s) (hbus : s.onTheBus = true) :
    BlockInv { s with phase := .aborting } :=
  { hs with
    frame_ok := fun _ => hs.frame_ok fun hidle => by simp [State.onTheBus, hidle] at hbus
    fence_fresh := fun h => by cases h
    quiet_bus := fun h => by simp at h }

/-- A pixel's step adds a new pixel of the frame and writes to its destination bytes (R51, R145). -/
theorem blockInv_pixel {p : Pixel} {picks : List Nat} {reply : BusReply} {s t : State} (hs : BlockInv s)
    (h : pixelStep p picks reply s = .next t) : BlockInv t := by
  obtain ⟨-, hstep⟩ | ⟨-, -, hstep⟩ | ⟨hen, -, hstep⟩ | ⟨hen, -, hstep⟩ := pixelStep_cases p picks reply s
  all_goals cases hstep.symm.trans h
  · exact hs
  · exact blockInv_aborting hs ((onTheBus_iff s).2 (.inl ((pixelEnabled_iff s p).1 hen).1))
  · obtain ⟨hrunning, hpixel, hnew⟩ := (pixelEnabled_iff s p).1 hen
    exact { hs with
      done_nodup := List.nodup_cons.2 ⟨hnew, hs.done_nodup⟩
      done_in_frame := List.forall_mem_cons.2 ⟨hpixel, hs.done_in_frame⟩
      fence_fresh := fun hfenced => by cases hrunning.symm.trans hfenced
      quiet_bus := fun hquiet => by simp [hrunning] at hquiet
      inflight_dst := List.forall_mem_append.2 ⟨hs.inflight_dst, pixelCells_dst s p picks hpixel⟩ }

/-- A completed write stores a byte of the frame, and leaves the others in flight (R54, R145). -/
theorem blockInv_complete {s : State} (k : Nat) (reply : BusReply) (hs : BlockInv s) :
    BlockInv (completeStep k reply s) := by
  obtain ⟨hstep, -⟩ | ⟨c, hbus, hc, -, hstep⟩ | ⟨c, hbus, -, -, hstep⟩ := completeStep_cases k reply s
  · rw [hstep]; exact hs
  · have hbusy : s.phase ≠ .idle := fun hidle => by simp [State.onTheBus, hidle] at hbus
    have hdst := hs.inflight_dst c (List.mem_of_getElem? hc)
    rw [hstep]
    exact { hs with
      mem_wf := writeByte_wf s.mem c.1 c.2 hs.mem_wf (s.frame.dstByte_lt (hs.frame_ok hbusy) c.1 hdst)
      quiet_bus := fun hquiet => by rw [hs.quiet_bus hquiet]; rfl
      inflight_dst := fun d hd => hs.inflight_dst d (List.mem_of_mem_eraseIdx hd) }
  · rw [hstep]
    have habort := blockInv_aborting hs hbus
    exact { habort with
      quiet_bus := fun hquiet => by simp at hquiet
      inflight_dst := fun d hd => hs.inflight_dst d (List.mem_of_mem_eraseIdx hd) }

/-- The end of a frame leaves nothing in flight, and the free bytes of an abort are bytes of the frame (R130, R185). -/
theorem blockInv_finish {s : State} (hs : BlockInv s) : BlockInv (finishStep s) := by
  obtain hstep | ⟨hflight, -, -, hstep⟩ | ⟨hflight, haborting, hstep⟩ := finishStep_cases s
  · rw [hstep]; exact hs
  · rw [hstep]
    exact { hs with
      frame_ok := fun h => absurd rfl h
      fence_fresh := fun h => by cases h
      quiet_bus := fun _ => hflight }
  · have hok := hs.frame_ok (by simp [haborting])
    rw [hstep]
    exact { hs with
      mem_wf := scramble_wf s.mem s.freeCount s.frame.dstBytes hs.mem_wf (s.frame.dstByte_lt hok)
      frame_ok := fun h => absurd rfl h
      fence_fresh := fun h => by cases h
      quiet_bus := fun _ => hflight }

/-- Every register at its reset value, over any canonical memory. -/
theorem blockInv_reset {s : State} (hs : BlockInv s) : BlockInv (resetStep s) where
  mem_wf := by
    rw [resetStep_mem]
    split
    case isTrue hbusy =>
      exact scramble_wf _ _ _ hs.mem_wf (s.frame.dstByte_lt (hs.frame_ok ((busy_iff s).1 hbusy)))
    case isFalse => exact hs.mem_wf
  context := fun h => by cases h
  frame_ok := fun h => absurd rfl h
  done_nodup := List.nodup_nil
  done_in_frame := fun _ h => by cases h
  fence_fresh := fun _ => rfl
  quiet_bus := fun _ => rfl
  inflight_dst := fun _ h => by cases h
  build_current := fun h => by cases h
  shadow_built := fun _ _ => rfl

/-- Every event keeps the block's invariant. -/
theorem blockInv_deliver {e : Event} {s t : State} (hs : BlockInv s) (h : deliver e s = .next t) : BlockInv t := by
  cases e
  case host bits w =>
    obtain ⟨-, hexec⟩ | ⟨-, hrefused⟩ := hostTransaction_cases bits w s
    · exact blockInv_exec hs (hexec.symm.trans h)
    · cases hrefused.symm.trans h
  case hostStore a v => cases h; exact blockInv_hostStore a v hs
  case hostLoad a => cases h; exact blockInv_hostLoad a hs
  case build => cases h; exact blockInv_build hs
  case publish => cases h; exact blockInv_publish hs
  case pixel => exact blockInv_pixel hs h
  case complete k reply => cases h; exact blockInv_complete k reply hs
  case finish => cases h; exact blockInv_finish hs
  case reset => cases h; exact blockInv_reset hs

/-- The invariant does not depend on the events to come. -/
theorem blockInv_inputs {s : State} (rest : List Event) (hs : BlockInv s) : BlockInv { s with inputs := rest } :=
  { hs with }

/-- Settles O53, by every event. -/
theorem blockInvariantIsKept : Obligations.BlockInvariantIsKept := fun _ _ hs h =>
  step_keeps (fun _ rest => blockInv_inputs rest) (fun _ _ _ => blockInv_deliver) hs h

/-- Settles O54, field by field. -/
theorem blockInvariantHoldsAtReset : Obligations.BlockInvariantHoldsAtReset where
  mem_wf := Memory.wf_nil
  context := fun h => by cases h
  frame_ok := fun h => absurd rfl h
  done_nodup := List.nodup_nil
  done_in_frame := fun _ h => by cases h
  fence_fresh := fun _ => rfl
  quiet_bus := fun _ => rfl
  inflight_dst := fun _ h => by cases h
  build_current := fun h => by cases h
  shadow_built := fun _ _ => rfl

/-! No fault -/

/-- A register transaction never faults. -/
theorem exec_ne_fault {i : Instr} {s : State} {r : Fault} : exec i s ≠ .fault r := by
  obtain ⟨t, h⟩ | ⟨_, _, _, _, h, -⟩ := exec_answers i s
  all_goals simp [h]

/-- Under the invariant the bytes of every pixel of the frame exist (R125 check 6, R132). -/
theorem pixelStep_ne_fault {p : Pixel} {picks : List Nat} {reply : BusReply} {s : State} {r : Fault} (hs : BlockInv s) :
    pixelStep p picks reply s ≠ .fault r := by
  intro h
  obtain ⟨-, hstep⟩ | ⟨hen, hout, -⟩ | ⟨-, -, hstep⟩ | ⟨-, -, hstep⟩ := pixelStep_cases p picks reply s
  · cases hstep.symm.trans h
  · obtain ⟨hrunning, hpixel, -⟩ := (pixelEnabled_iff s p).1 hen
    have hok := hs.frame_ok (by simp [hrunning])
    simp [s.frame.src_inFrameMemory hok hpixel, s.frame.dst_inFrameMemory hok hpixel] at hout
  · cases hstep.symm.trans h
  · cases hstep.symm.trans h

theorem deliver_ne_fault {e : Event} {s : State} {r : Fault} (hs : BlockInv s) : deliver e s ≠ .fault r := by
  intro h
  cases e
  case host bits w =>
    obtain ⟨-, hexec⟩ | ⟨-, hrefused⟩ := hostTransaction_cases bits w s
    · exact exec_ne_fault (hexec.symm.trans h)
    · cases hrefused.symm.trans h
  case pixel => exact pixelStep_ne_fault hs h
  all_goals cases h

/-- Settles O55: every event, of the inputs or of the block's own turn. -/
theorem noFaultUnderTheInvariant : Obligations.NoFaultUnderTheInvariant := by
  intro s r hs h
  obtain ⟨e, rest, -, hstep⟩ | ⟨e, -, -, hstep⟩ | ⟨-, -, hstep⟩ := step_cases s
  · exact deliver_ne_fault (blockInv_inputs rest hs) (hstep.symm.trans h)
  · exact deliver_ne_fault hs (hstep.symm.trans h)
  · cases hstep.symm.trans h

end Sys2Proof.Machine
end

section
/-! PROOFS. Frame memory (20_memory.md R58, R60, R66, R73): who changes a byte of it, the host's loads and stores, and the
samples and pixels of a frame. -/

namespace Sys2Proof.Machine

/-! Host loads and stores, completed writes -/

/-- Settles O31: the store as `hostStoreStep` has it, the byte by the law of `writeByte`. -/
theorem hostStoreStoresItsByte : Obligations.HostStoreStoresItsByte := by
  intro s a v hwf
  refine ⟨hostStoreStep a v s, rfl, rfl, fun b => readByte_writeByte s.mem a.toNat b v hwf, fun hidle => ?_,
    fun hbusy => ?_⟩
  · rw [hostStoreStep_raced, (busy_false_iff s).2 hidle, if_neg Bool.false_ne_true]
  · rw [hostStoreStep_raced, (busy_iff s).2 hbusy, if_pos rfl]

theorem inDstPlane_iff (f : FrameLatch) (a : Nat) :
    f.inDstPlane a = true ↔ f.dstBase.toNat ≤ a ∧ (a : Int) < f.dstBase.toNat +
      ((f.height.toNat : Int) - 1) * f.dstStride.toNat + f.width.toNat * f.outFmt.bytes := by
  rw [FrameLatch.inDstPlane, Bool.and_eq_true, decide_eq_true_eq, decide_eq_true_eq, planeEnd]

/-- Settles O48, by whether the address lies in the destination plane of a frame in progress. -/
theorem hostLoadReturnsTheByteOrAnyValue : Obligations.HostLoadReturnsTheByteOrAnyValue := by
  intro s a
  refine ⟨hostLoadStep a s, rfl, ?frame, fun hbyte => ?byte, fun ⟨hbusy, hplane⟩ => ?free⟩
  case frame =>
    obtain hstep | hstep := hostLoadStep_cases a s
    all_goals rw [hstep]
  case byte =>
    have hout : (s.busy && s.frame.inDstPlane a.toNat) = false := by
      rw [Bool.and_eq_false_iff, busy_false_iff, ← Bool.not_eq_true, inDstPlane_iff, not_and_or, not_le, not_lt]
      exact hbyte
    rw [hostLoadStep, hout]
    exact ⟨rfl, rfl⟩
  case free =>
    have hin : (s.busy && s.frame.inDstPlane a.toNat) = true := by
      rw [Bool.and_eq_true, busy_iff, inDstPlane_iff]
      exact ⟨hbusy, hplane⟩
    rw [hostLoadStep, hin]
    exact ⟨rfl, rfl⟩

/-- Settles O45: the write in flight is at the address of its cell. -/
theorem completedWriteStoresItsByte : Obligations.CompletedWriteStoresItsByte := by
  intro s k c hbus hwf hc
  have hstep : completeStep k .ok s = { s with inflight := s.inflight.eraseIdx k, mem := writeByte s.mem c.1 c.2 } := by
    rw [completeStep, (onTheBus_iff s).2 hbus, hc]
    rfl
  refine ⟨completeStep k .ok s, rfl, ?_⟩
  rw [hstep]
  exact ⟨rfl, fun a => readByte_writeByte s.mem c.1 a c.2 hwf⟩

/-! Memory outside a frame -/

/-- `o` over memory `m`: the same outcome, but for what memory holds. -/
def overMemory (m : Memory) (o : Host.Outcome State Fault Refusal) : Host.Outcome State Fault Refusal :=
  match o with
  | .next t => .next { t with mem := m }
  | .fault r => .fault r
  | .refused r => .refused r

/-- NEGOTIATE reads no memory. -/
theorem execCmdNegotiate_overMemory (s : State) (m : Memory) :
    execCmdNegotiate { s with mem := m } = overMemory m (execCmdNegotiate s) := by
  by_cases hidle : s.phase = .idle
  case neg =>
    rw [execCmdNegotiate_of_busy (s := s) hidle]
    exact execCmdNegotiate_of_busy (s := { s with mem := m }) hidle
  case pos =>
    by_cases hfails : NegotiateFails s
    case pos =>
      rw [execCmdNegotiate_of_fails (s := s) hidle hfails]
      exact execCmdNegotiate_of_fails (s := { s with mem := m }) hidle hfails
    case neg =>
      obtain ⟨i, o, hstep, hi, ho⟩ := execCmdNegotiate_of_not_fails (s := s) hidle hfails
      obtain ⟨i', o', hstep', hi', ho'⟩ := execCmdNegotiate_of_not_fails (s := { s with mem := m }) hidle hfails
      obtain rfl := InFormat.number_injective (hi'.trans hi.symm)
      obtain rfl := OutFormat.number_injective (ho'.trans ho.symm)
      rw [hstep, hstep']
      rfl

/-- PROCESS reads no memory: no check does (42_frame_transform.md R125). -/
theorem execCmdProcess_overMemory (s : State) (m : Memory) :
    execCmdProcess { s with mem := m } = overMemory m (execCmdProcess s) := by
  by_cases hidle : s.phase = .idle
  case neg =>
    rw [execCmdProcess_of_busy (s := s) hidle]
    exact execCmdProcess_of_busy (s := { s with mem := m }) hidle
  case pos =>
    cases hcheck : checkFrame s
    case some c =>
      rw [execCmdProcess_of_fails (s := s) hidle hcheck]
      exact execCmdProcess_of_fails (s := { s with mem := m }) hidle hcheck
    case none =>
      rw [execCmdProcess_of_passes (s := s) hidle hcheck]
      exact execCmdProcess_of_passes (s := { s with mem := m }) hidle hcheck

/-- A write of `PRESET` reads no memory. -/
theorem execWrPreset_overMemory (d : Word) (s : State) (m : Memory) :
    execWrPreset d { s with mem := m } = overMemory m (execWrPreset d s) := by
  cases hcode : Preset.ofCode d
  case some p =>
    rw [execWrPreset_of_known hcode, execWrPreset_of_known hcode]
    rfl
  case none =>
    rw [execWrPreset_of_unknown hcode, execWrPreset_of_unknown hcode]
    rfl

/-- A register transaction does not depend on memory (R58). -/
theorem exec_overMemory (i : Instr) (s : State) (m : Memory) : exec i { s with mem := m } = overMemory m (exec i s) := by
  cases i
  case cmdNegotiate => exact execCmdNegotiate_overMemory s m
  case cmdProcess => exact execCmdProcess_overMemory s m
  case wrPreset d => exact execWrPreset_overMemory d s m
  case unmapped050 we _ _ | unmapped060 we _ _ | unmapped080 we _ _ | unmapped100 we _ _ | unmapped200 we _ _ |
      unmapped400 we _ _ | unmapped800 we _ _ =>
    cases we
    all_goals rfl
  all_goals rfl

/-- With no frame in progress, the reset input leaves memory (70_reset_and_hazards.md R199). -/
theorem resetStep_overMemory {s : State} (hidle : s.phase = .idle) (m : Memory) :
    resetStep { s with mem := m } = { resetStep s with mem := m } := by
  have hbusy : s.busy = false := (busy_false_iff s).2 hidle
  have hbusy' : ({ s with mem := m } : State).busy = false := hbusy
  rw [resetStep, resetStep, hbusy, hbusy']
  rfl

theorem buildStep_overMemory (s : State) (m : Memory) : buildStep { s with mem := m } = { buildStep s with mem := m } := by
  obtain ⟨hbuild, hstep⟩ | ⟨hbuild, hstep⟩ := buildStep_cases s
  · rw [hstep]
    exact buildStep_of_not_busy (s := { s with mem := m }) hbuild
  · rw [hstep]
    exact buildStep_of_busy (s := { s with mem := m }) hbuild

/-- With no frame in progress, only a host store changes memory, and no write goes in flight. -/
theorem deliver_memory_of_idle {e : Event} {s t : State} (hidle : s.phase = .idle) (h : deliver e s = .next t)
    (hreset : e ≠ .reset) : t.inflight = s.inflight ∧ (t.mem = s.mem ∨ ∃ a v, e = .hostStore a v) := by
  have hoff := (offTheBus_iff s).2 (.inl hidle)
  cases e
  case host bits w =>
    obtain ⟨-, hexec⟩ | ⟨-, hrefused⟩ := hostTransaction_cases bits w s
    · obtain ⟨-, hmem, hflight, -⟩ := transactionsNeverTouchMemoryOrTables _ s t (hexec.symm.trans h)
      exact ⟨hflight, .inl hmem⟩
    · cases hrefused.symm.trans h
  case hostStore a v => cases h; exact ⟨rfl, .inr ⟨a, v, rfl⟩⟩
  case hostLoad a =>
    cases h
    obtain hstep | hstep := hostLoadStep_cases a s
    all_goals rw [hstep]; exact ⟨rfl, .inl rfl⟩
  case build =>
    cases h
    obtain ⟨-, hstep⟩ | ⟨-, hstep⟩ := buildStep_cases s
    all_goals rw [hstep]; exact ⟨rfl, .inl rfl⟩
  case publish => cases h; rw [publishStep_of_not_fenced (by simp [hidle])]; exact ⟨rfl, .inl rfl⟩
  case pixel x y picks reply => cases (pixelStep_of_off hoff _ picks reply).symm.trans h; exact ⟨rfl, .inl rfl⟩
  case complete k reply => cases h; rw [completeStep_of_off hoff]; exact ⟨rfl, .inl rfl⟩
  case finish => cases h; rw [finishStep_of_off hoff]; exact ⟨rfl, .inl rfl⟩
  case reset => exact absurd rfl hreset

/-- With no frame in progress, a step other than a host load or store is the same over any memory. -/
theorem deliver_overMemory_of_idle {e : Event} {s : State} (hidle : s.phase = .idle) (hload : ∀ a, e ≠ .hostLoad a)
    (hstore : ∀ a v, e ≠ .hostStore a v) (m : Memory) :
    deliver e { s with mem := m } = overMemory m (deliver e s) := by
  have hoff : s.onTheBus = false := (offTheBus_iff s).2 (.inl hidle)
  have hoff' : ({ s with mem := m } : State).onTheBus = false := hoff
  have hfence : s.phase ≠ .fenced := by simp [hidle]
  have hfence' : ({ s with mem := m } : State).phase ≠ .fenced := hfence
  cases e
  case host bits w =>
    obtain ⟨rfl, -⟩ | ⟨hbits, -⟩ := hostTransaction_cases bits w s
    · exact exec_overMemory (decode w) s m
    · exact (hostTransaction_of_ne_32 hbits w _).trans (congrArg (overMemory m) (hostTransaction_of_ne_32 hbits w s)).symm
  case hostStore a v => exact absurd rfl (hstore a v)
  case hostLoad a => exact absurd rfl (hload a)
  case build => exact congrArg Host.Outcome.next (buildStep_overMemory s m)
  case publish => rw [deliver, deliver, publishStep_of_not_fenced hfence, publishStep_of_not_fenced hfence']; rfl
  case pixel x y picks reply => rw [deliver, deliver, pixelStep_of_off hoff, pixelStep_of_off hoff']; rfl
  case complete k reply => rw [deliver, deliver, completeStep_of_off hoff, completeStep_of_off hoff']; rfl
  case finish => rw [deliver, deliver, finishStep_of_off hoff, finishStep_of_off hoff']; rfl
  case reset => exact congrArg Host.Outcome.next (resetStep_overMemory hidle m)

/-- Settles O30: a byte that changes is the stored one, and no other step reads memory. -/
theorem frameMemoryIsTheHostsOutsideAFrame : Obligations.FrameMemoryIsTheHostsOutsideAFrame := by
  refine ⟨fun e s t hidle h hreset => ?writes, fun e s t m hidle hload hstore h => ?reads⟩
  case writes =>
    obtain ⟨hflight, hmem | ⟨w, v, rfl⟩⟩ := deliver_memory_of_idle hidle h hreset
    · exact ⟨hflight, fun a hne => absurd (congrArg (readByte · a) hmem) hne⟩
    · cases h
      refine ⟨hflight, fun a hne => ⟨w, v, rfl, ?_⟩⟩
      by_contra hother
      exact hne (readByte_writeByte_other s.mem w.toNat a v hother)
  case reads => rw [deliver_overMemory_of_idle hidle hload hstore m, h]; rfl

/-! The samples and pixels of a frame -/

/-- Settles O39, one format at a time. -/
theorem samplesAreLittleEndian : Obligations.SamplesAreLittleEndian :=
  fun m a => ⟨memRead_one m a, memRead_two m a⟩

/-- Where the host has not raced with the frame, a pixel's sample is a plain read (R133). -/
theorem sample_of_unraced {s : State} (h : s.raced = []) (p : Pixel) (picks : List Nat) :
    s.sample p picks = memRead s.mem (s.frame.srcAddr p) s.frame.inFmt.bytes := by
  rw [State.sample, h, memReadRaced_nil]

/-- Settles O46: the sample depends on the source bytes, and the rest of the color on the latch and the table. -/
theorem pixelsDependOnLatchedValuesAndSourceOnly : Obligations.PixelsDependOnLatchedValuesAndSourceOnly := by
  intro s t p picks picks' hframe hactive hs ht hbytes
  have hsample : s.sample p picks = t.sample p picks' := by
    rw [sample_of_unraced hs, sample_of_unraced ht, ← hframe]
    exact memRead_congr _ _ _ _ hbytes
  rw [State.pixelCells, State.pixelCells, hsample, hframe, hactive]

/-- An enabled pixel's step of a frame that passed its checks: its writes are issued, or the frame aborts (R131, R133). -/
theorem pixelStep_of_enabled {s : State} {p : Pixel} (hrunning : s.phase = .running) (hok : s.frame.Ok)
    (hpixel : s.frame.hasPixel p = true) (hnew : p ∉ s.donePx) (picks : List Nat) :
    pixelStep p picks .ok s =
      .next { s with inflight := s.inflight ++ s.pixelCells p picks, donePx := p :: s.donePx } ∧
    pixelStep p picks .error s = .next { s with phase := .aborting } := by
  have hen := (pixelEnabled_iff s p).2 ⟨hrunning, hpixel, hnew⟩
  have hsrc := s.frame.src_inFrameMemory hok hpixel
  have hdst := s.frame.dst_inFrameMemory hok hpixel
  simp [pixelStep, hen, hsrc, hdst]

/-- A pixel that is done or outside the frame takes no step (R127, R128). -/
theorem pixelStep_of_disabled {s : State} {p : Pixel} (h : s.frame.hasPixel p = false ∨ p ∈ s.donePx)
    (picks : List Nat) (reply : BusReply) : pixelStep p picks reply s = .next s :=
  if_pos (by
    rw [← Bool.not_eq_true, pixelEnabled_iff]
    rintro ⟨-, hpixel, hnew⟩
    simp [hpixel, hnew] at h)

/-- Settles O44: the pixel is enabled, and its sample a plain read; or it is not enabled. -/
theorem pixelStepIssuesThePixel : Obligations.PixelStepIssuesThePixel := by
  refine fun s x y picks hrunning hok hraced => ⟨fun hx hy hnew => ?issued, fun hnot => ?stays⟩
  case issued =>
    obtain ⟨hstep, -⟩ := pixelStep_of_enabled hrunning hok ((s.frame.hasPixel_iff (x, y)).2 ⟨hx, hy⟩) hnew picks
    refine ⟨s.pixelCells (x, y) picks, hstep, ?_⟩
    rw [State.pixelCells, sample_of_unraced hraced]
    rfl
  case stays =>
    refine pixelStep_of_disabled ?_ picks .ok
    rw [← Bool.not_eq_true, FrameLatch.hasPixel_iff, not_and_or, not_lt, not_lt, or_assoc]
    exact hnot

/-- The sample bytes that the picks of a race choose (20_memory.md R73). -/
def racedBytes (s : State) (sa : Nat) (picks : List Nat) : List Byte :=
  (List.range s.frame.inFmt.bytes).map fun j => racedByte s.mem s.raced (picks.getD j 0) (sa + j)

/-- A pixel's sample is the number of the bytes its picks choose (R59, R73). -/
theorem sample_eq_racedBytes (s : State) (p : Pixel) (picks : List Nat) :
    s.sample p picks = leValue (racedBytes s (s.frame.srcAddr p) picks) := rfl

/-- Each byte that the picks choose is one the race admits. -/
theorem racedBytes_racedSample (s : State) (sa : Nat) (picks : List Nat) : RacedSample s sa (racedBytes s sa picks) := by
  refine ⟨by simp [racedBytes], fun j b hb => ?_⟩
  simp only [racedBytes, List.getElem?_map, Option.map_eq_some_iff, List.getElem?_eq_some_iff] at hb
  obtain ⟨i, ⟨_, hi⟩, rfl⟩ := hb
  rw [List.getElem_range] at hi
  rw [hi]
  exact racedByte_cases s.mem s.raced _ (sa + i)

/-- The bytes that a race admits are those of some picks. -/
theorem exists_racedBytes {s : State} {sa : Nat} {bytes : List Byte} (h : RacedSample s sa bytes) :
    ∃ picks, racedBytes s sa picks = bytes := by
  obtain ⟨hlength, hbytes⟩ := h
  have hpick (j : Nat) : ∃ pick, ∀ hj : j < bytes.length, racedByte s.mem s.raced pick (sa + j) = bytes[j] := by
    by_cases hj : j < bytes.length
    · obtain ⟨pick, hpick⟩ := exists_racedByte s.mem s.raced (sa + j) bytes[j] (hbytes j _ (List.getElem?_eq_getElem hj))
      exact ⟨pick, fun _ => hpick⟩
    · exact ⟨0, fun hj' => absurd hj' hj⟩
  choose pick hpick using hpick
  refine ⟨(List.range bytes.length).map pick, List.ext_getElem (by simp [racedBytes, hlength]) fun j _ hj => ?_⟩
  simp [racedBytes, hj, hpick]

/-- Settles O47: a pixel's step issues the bytes its picks choose, and the picks choose what the race admits. -/
theorem racedByteIsOldOrNew : Obligations.RacedByteIsOldOrNew := by
  refine ⟨fun s x y hrunning hok hx hy hnew => ?_, fun s t a v hbusy hwf h => ?store⟩
  · have hstep (picks : List Nat) : pixelStep (x, y) picks .ok s = .next { s with
        inflight := s.inflight ++ memWriteCells (s.frame.dstAddr (x, y)) (pack s.frame.outFmt
          (s.frame.color s.lutActive (leValue (racedBytes s (s.frame.srcAddr (x, y)) picks))))
        donePx := (x, y) :: s.donePx } := by
      rw [← sample_eq_racedBytes]
      exact (pixelStep_of_enabled hrunning hok ((s.frame.hasPixel_iff (x, y)).2 ⟨hx, hy⟩) hnew picks).1
    refine ⟨fun picks => ⟨_, racedBytes_racedSample s _ picks, hstep picks⟩, fun bytes hbytes => ?_⟩
    obtain ⟨picks, rfl⟩ := exists_racedBytes hbytes
    exact ⟨picks, hstep picks⟩
  case store =>
    cases h
    refine ⟨readByte_writeByte_same s.mem a.toNat v hwf, ?_, fun b => readByte_writeByte_other s.mem a.toNat b v⟩
    rw [hostStoreStep_raced, (busy_iff s).2 hbusy, if_pos rfl]

end Sys2Proof.Machine
end

section
/-! PROOFS. The interrupt registers' writes (43_control.md R150, R151), the abort of a frame (60_exceptions.md R179, R185) and
the reset input (70_reset_and_hazards.md R197, R199). -/

namespace Sys2Proof.Machine

/-! The interrupt registers -/

theorem doneBit_eq (d : Word) : doneBit d = decide (d.toNat % 2 = 1) := by
  rw [doneBit, getLsbD_eq_decide, Nat.pow_zero, Nat.div_one]

theorem errBit_eq (d : Word) : errBit d = decide (d.toNat / 2 % 2 = 1) := by
  rw [errBit, getLsbD_eq_decide, Nat.pow_one]

/-- A bit that is not 1 is 0. -/
theorem not_decide_bit (n : Nat) : (!decide (n % 2 = 1)) = decide (n % 2 = 0) := by
  rw [← decide_not, decide_eq_decide, ← ne_eq, Nat.mod_two_ne_one]

theorem exec_wrIntStatus (d : Word) (s : State) :
    exec (.wrIntStatus d) s = .next { s with
      intDone := s.intDone && decide (d.toNat % 2 = 0), intErr := s.intErr && decide (d.toNat / 2 % 2 = 0) } := by
  rw [← not_decide_bit, ← not_decide_bit, ← doneBit_eq, ← errBit_eq]
  rfl

theorem exec_wrIntEnable (d : Word) (s : State) :
    exec (.wrIntEnable d) s = .next { s with
      doneEn := decide (d.toNat % 2 = 1), errEn := decide (d.toNat / 2 % 2 = 1) } := by
  rw [← doneBit_eq, ← errBit_eq]
  rfl

/-- Settles O15: each register by its offset and its bits; the output is level, so it follows the enables stored. -/
theorem interruptRegisterWrites : Obligations.InterruptRegisterWrites := by
  refine ⟨writesAs_of_decodeFields (fun _ => rfl) exec_wrIntStatus,
    writesAs_of_decodeFields (fun _ => rfl) exec_wrIntEnable, fun d s t h => ?_⟩
  cases (exec_wrIntEnable d s).symm.trans h
  rw [irq_iff, decide_eq_true_eq, decide_eq_true_eq]

/-! Bytes at any value -/

/-- Each byte set to any value holds one of the free bytes used up (60_exceptions.md R185). -/
theorem readByte_scramble_mem {m : Memory} {n : Nat} {as : List Nat} {a : Nat} (hwf : m.wf = true)
    (hlt : ∀ b ∈ as, b < Config.memBytes) (ha : a ∈ as) :
    ∃ k, n ≤ k ∧ k < n + as.length ∧ readByte (scramble m n as) a = Config.freeByte k := by
  induction as generalizing m n with
  | nil => cases ha
  | cons b as ih =>
    obtain ⟨hb, hrest⟩ := List.forall_mem_cons.1 hlt
    rw [scramble, List.length_cons]
    by_cases hmem : a ∈ as
    · obtain ⟨k, hge, hle, hbyte⟩ := ih (n := n + 1) (writeByte_wf m b (Config.freeByte n) hwf hb) hrest hmem
      exact ⟨k, by omega, by omega, hbyte⟩
    · obtain rfl : a = b := (List.mem_cons.1 ha).resolve_right hmem
      exact ⟨n, le_rfl, by omega, by
        rw [readByte_scramble_other _ _ _ _ hmem, readByte_writeByte_same m a _ hwf]⟩

/-! The abort -/

/-- A frame that is not running processes no pixel, so an aborting one does not (R185). -/
theorem pixelStep_of_not_running {s : State} (h : s.phase ≠ .running) (p : Pixel) (picks : List Nat)
    (reply : BusReply) : pixelStep p picks reply s = .next s :=
  if_pos (by simp [State.pixelEnabled, h])

/-- An error response to a write stores nothing and aborts the frame (R185). -/
theorem completeStep_error {s : State} {k : Nat} {c : Host.Cell} (hbus : s.phase = .running ∨ s.phase = .aborting)
    (hc : s.inflight[k]? = some c) :
    completeStep k .error s = { s with phase := .aborting, inflight := s.inflight.eraseIdx k } := by
  rw [completeStep, (onTheBus_iff s).2 hbus, hc]
  rfl

/-- Settles O50: an error response leads to the aborting phase, which takes no pixel and ends once nothing is in flight, with
the destination pixel bytes, and only those, at any value. -/
theorem busErrorAbortsTheFrame : Obligations.BusErrorAbortsTheFrame := by
  refine ⟨fun s p picks hrunning hok hpixel hnew => (pixelStep_of_enabled hrunning hok hpixel hnew picks).2,
    fun s k c hbus hc => congrArg Host.Outcome.next (completeStep_error hbus hc),
    fun s x y picks r haborting => pixelStep_of_not_running (by simp [haborting]) (x, y) picks r,
    fun s _ hflight => congrArg Host.Outcome.next (if_neg hflight), fun s haborting hflight => ?ends⟩
  case ends =>
    refine ⟨abortFrame s, congrArg Host.Outcome.next (finishStep_of_aborting haborting hflight), rfl,
      fun a ha => readByte_scramble_other _ _ _ _ ha,
      fun hok p j hpixel hj => readByte_scramble_other _ _ _ _ (s.frame.src_not_dst hok hpixel hj),
      fun hok hwf a ha => readByte_scramble_mem hwf (s.frame.dstByte_lt hok) ha⟩

/-! The reset input -/

/-- Settles O52: every register as `State.resetWith` has it; memory by whether a frame is abandoned. -/
theorem resetInputRestoresEveryRegister : Obligations.ResetInputRestoresEveryRegister := by
  intro s
  refine ⟨resetStep s, rfl, rfl, rfl, rfl, rfl, rfl, rfl, rfl, rfl, rfl, rfl, rfl, rfl, rfl, rfl, rfl, rfl, rfl, rfl, rfl,
    rfl, rfl, rfl, rfl, rfl, rfl, rfl, rfl, rfl, rfl, rfl, rfl, fun hidle => ?idle, fun a ha => ?other,
    fun hbusy hok hwf a ha => ?free⟩
  case idle => rw [resetStep_mem, (busy_false_iff s).2 hidle, if_neg Bool.false_ne_true]
  case other =>
    rw [resetStep_mem]
    split
    case isTrue => exact readByte_scramble_other _ _ _ _ ha
    case isFalse => rfl
  case free =>
    have hcount : (resetStep s).freeCount = s.freeCount + s.frame.dstBytes.length := by
      simp [resetStep, (busy_iff s).2 hbusy]
    rw [resetStep_mem, hcount, (busy_iff s).2 hbusy, if_pos rfl]
    exact readByte_scramble_mem hwf (s.frame.dstByte_lt hok) ha

end Sys2Proof.Machine
end

section
/-! PROOFS. The progress of a frame (42_frame_transform.md R127 to R131, R145; 20_memory.md R73): publication starts it, every
event that leaves the frame alone keeps it or completes the frame, and the whole picture is then in memory. -/

namespace Sys2Proof.Machine

/-! The start -/

/-- A frame with no pixel done and nothing in flight is at its start, on the memory it sees. -/
theorem frameProgress_start {rom : Lut} {s : State} (hrunning : s.phase = .running)
    (htable : s.frame.preset = .jet → s.lutActive = rom) (hwf : s.mem.wf = true)
    (hraced : ∀ c ∈ s.raced, s.frame.inSrcPlane c.1 = false) (hdone : s.donePx = []) (hflight : s.inflight = []) :
    FrameProgress rom s.mem s where
  running := hrunning
  table := htable
  start_wf := hwf
  unraced := hraced
  done := by simp [hdone]
  flight := by simp [hflight]
  bytes := fun _ => .inl rfl

/-- Settles O56: at the fence no pixel is done and nothing is in flight, and publication stores nothing. -/
theorem publicationStartsTheFrame : Obligations.PublicationStartsTheFrame := by
  intro s t hs hfenced hbuilt hraced hshadow h
  have hdone := hs.fence_fresh hfenced
  have hflight := hs.quiet_bus (.inr hfenced)
  cases h
  cases hpreset : s.frame.preset
  case jet =>
    rw [publishStep_of_jet hfenced hbuilt hpreset]
    exact frameProgress_start (s := { s with phase := .running, lutActive := s.lutShadow }) rfl
      (fun _ => hshadow hpreset) hs.mem_wf hraced hdone hflight
  case none =>
    rw [publishStep_of_none hfenced hbuilt hpreset]
    exact frameProgress_start (s := { s with phase := .running }) rfl
      (fun hjet => by cases hpreset.symm.trans hjet) hs.mem_wf hraced hdone hflight

/-! What the progress depends on -/

/-- The progress of a frame is about the frame's own fields and memory. -/
theorem FrameProgress.congr {rom : Lut} {m0 : Memory} {s t : State} (h : FrameProgress rom m0 s)
    (hphase : t.phase = s.phase) (hframe : t.frame = s.frame) (hactive : t.lutActive = s.lutActive)
    (hraced : t.raced = s.raced) (hdone : t.donePx = s.donePx) (hflight : t.inflight = s.inflight)
    (hmem : t.mem = s.mem) : FrameProgress rom m0 t where
  running := hphase.trans h.running
  table := by rw [hframe, hactive]; exact h.table
  start_wf := h.start_wf
  unraced := by rw [hraced, hframe]; exact h.unraced
  done := by rw [hdone, hframe, hflight, hmem]; exact h.done
  flight := by rw [hflight, hdone, hframe]; exact h.flight
  bytes := by rw [hdone, hframe, hmem]; exact h.bytes

/-- A NONE frame's color does not depend on the table, and a JET frame's table is the palette (R134, R142). -/
theorem FrameLatch.color_congr {f : FrameLatch} {lut rom : Lut} (h : f.preset = .jet → lut = rom) (v : Nat) :
    f.color lut v = f.color rom v := by
  cases hpreset : f.preset
  case jet => rw [h hpreset]
  case none => rw [f.color_of_none hpreset, f.color_of_none hpreset]

section Pixels
variable {rom : Lut} {m0 : Memory} {s : State} (hs : BlockInv s) (hp : FrameProgress rom m0 s)
include hs hp

/-- The checks the frame has passed. -/
theorem FrameProgress.frameOk : s.frame.Ok := hs.frame_ok (by simp [hp.running])

/-- A byte that is no destination pixel byte is as at the start. -/
theorem FrameProgress.byte_outside {a : Nat} (ha : a ∉ s.frame.dstBytes) : readByte s.mem a = readByte m0 a := by
  obtain hsame | ⟨p, hpixel, hcell⟩ := hp.bytes a
  · exact hsame
  · exact absurd (frameCells_dst s.frame rom m0 p (hs.done_in_frame p hpixel) _ hcell) ha

/-- A source byte races with no host store, so each pick gives the byte of the start (20_memory.md R73). -/
theorem FrameProgress.racedByte_source {p : Pixel} {j : Nat} (hpixel : s.frame.hasPixel p = true)
    (hj : j < s.frame.inFmt.bytes) (pick : Nat) :
    racedByte s.mem s.raced pick (s.frame.srcAddr p + j) = readByte m0 (s.frame.srcAddr p + j) := by
  have hsame := hp.byte_outside hs (s.frame.src_not_dst (hp.frameOk hs) hpixel hj)
  obtain hpresent | hrace := racedByte_cases s.mem s.raced pick (s.frame.srcAddr p + j)
  · exact hpresent.trans hsame
  · cases (hp.unraced _ hrace).symm.trans (s.frame.inSrcPlane_sample hpixel hj)

/-- The sample of a pixel of the frame is the one of the start. -/
theorem FrameProgress.sample_eq {p : Pixel} (hpixel : s.frame.hasPixel p = true) (picks : List Nat) :
    s.sample p picks = memRead m0 (s.frame.srcAddr p) s.frame.inFmt.bytes := by
  rw [State.sample, memReadRaced, memRead, memReadBy]
  congr 1
  exact List.map_congr_left fun j hj => hp.racedByte_source hs hpixel (List.mem_range.1 hj) _

/-- A pixel's step issues the cells the frame must have there. -/
theorem FrameProgress.pixelCells_eq {p : Pixel} (hpixel : s.frame.hasPixel p = true) (picks : List Nat) :
    s.pixelCells p picks = frameCells s.frame rom m0 p := by
  rw [State.pixelCells, frameCells, hp.sample_eq hs hpixel, FrameLatch.color_congr hp.table]

/-- Cells in flight or done at one address are one cell (R145). -/
theorem FrameProgress.cell_unique {c d : Host.Cell} {p : Pixel} (hc : c ∈ s.inflight) (hpixel : p ∈ s.donePx)
    (hd : d ∈ frameCells s.frame rom m0 p) (haddr : c.1 = d.1) : c = d := by
  obtain ⟨q, hq, hcell⟩ := hp.flight c hc
  exact frameCells_unique s.frame (hp.frameOk hs) rom m0 (hs.done_in_frame q hq) (hs.done_in_frame p hpixel) hcell hd haddr

/-! The events -/

/-- A pixel's step marks the pixel done with its cells in flight (R131). -/
theorem frameProgress_pixel {p : Pixel} {picks : List Nat} {t : State} (h : pixelStep p picks .ok s = .next t) :
    t.frame = s.frame ∧ FrameProgress rom m0 t := by
  obtain ⟨-, hstep⟩ | ⟨-, -, hstep⟩ | ⟨-, hreply, -⟩ | ⟨hen, -, hstep⟩ := pixelStep_cases p picks .ok s
  · cases hstep.symm.trans h
    exact ⟨rfl, hp⟩
  · cases hstep.symm.trans h
  · cases hreply
  · cases hstep.symm.trans h
    obtain ⟨-, hpixel, -⟩ := (pixelEnabled_iff s p).1 hen
    rw [hp.pixelCells_eq hs hpixel picks]
    refine ⟨rfl, { hp with done := ?done, flight := ?flight, bytes := ?bytes }⟩
    case done =>
      refine List.forall_mem_cons.2 ⟨fun c hc => .inl (List.mem_append_right _ hc), fun q hq c hc => ?_⟩
      exact (hp.done q hq c hc).imp_left (List.mem_append_left _)
    case flight =>
      refine List.forall_mem_append.2 ⟨fun c hc => ?_, fun c hc => ⟨p, List.mem_cons_self, hc⟩⟩
      obtain ⟨q, hq, hcell⟩ := hp.flight c hc
      exact ⟨q, List.mem_cons_of_mem p hq, hcell⟩
    case bytes =>
      refine fun a => (hp.bytes a).imp_right ?_
      rintro ⟨q, hq, hcell⟩
      exact ⟨q, List.mem_cons_of_mem p hq, hcell⟩

/-- A completed write puts its cell into memory, where no other cell of the frame is (R144, R145). -/
theorem frameProgress_complete (k : Nat) :
    (completeStep k .ok s).frame = s.frame ∧ FrameProgress rom m0 (completeStep k .ok s) := by
  obtain ⟨hstep, -⟩ | ⟨c, -, hk, -, hstep⟩ | ⟨_, -, -, hreply, -⟩ := completeStep_cases k .ok s
  · rw [hstep]; exact ⟨rfl, hp⟩
  · have hc := List.mem_of_getElem? hk
    have hbyte (a : Nat) := readByte_writeByte s.mem c.1 a c.2 hs.mem_wf
    rw [hstep]
    refine ⟨rfl, { hp with done := ?done, flight := ?flight, bytes := ?bytes }⟩
    case done =>
      intro p hpixel d hd
      by_cases haddr : c.1 = d.1
      · obtain rfl := hp.cell_unique hs hc hpixel hd haddr
        exact .inr (readByte_writeByte_same s.mem c.1 c.2 hs.mem_wf)
      · refine (hp.done p hpixel d hd).imp (fun hflight => ?_) fun hmem => ?_
        · obtain ⟨i, hi⟩ := List.mem_iff_getElem?.1 hflight
          refine List.mem_eraseIdx_iff_getElem?.2 ⟨i, fun hik => haddr ?_, hi⟩
          rw [hik, hk] at hi
          rw [Option.some.inj hi]
        · exact (readByte_writeByte_other s.mem c.1 d.1 c.2 (Ne.symm haddr)).trans hmem
    case flight => exact fun d hd => hp.flight d (List.mem_of_mem_eraseIdx hd)
    case bytes =>
      intro a
      show readByte (writeByte s.mem c.1 c.2) a = _ ∨ ∃ p ∈ s.donePx, (a, readByte (writeByte s.mem c.1 c.2) a) ∈ _
      rw [hbyte a]
      split
      case isTrue haddr =>
        subst haddr
        exact .inr (hp.flight c hc)
      case isFalse => exact hp.bytes a
  · cases hreply

/-- When every pixel is done and nothing is in flight, the picture is in memory (R127, R130). -/
theorem FrameProgress.frameWritten (hflight : s.inflight = []) (hall : s.nextPixel = none) :
    FrameWritten s.frame rom m0 s.mem := by
  refine ⟨fun p hpixel c hc => ?_, fun a ha => hp.byte_outside hs ha⟩
  obtain hpending | hmem := hp.done p ((nextPixel_eq_none s).1 hall p hpixel) c hc
  · simp [hflight] at hpending
  · exact hmem

/-- The end of the frame: not yet, or with the picture in memory. -/
theorem frameProgress_finish :
    (finishStep s).frame = s.frame ∧ (FrameProgress rom m0 (finishStep s) ∨
      ((finishStep s).phase = .idle ∧ (finishStep s).intDone = true ∧ FrameWritten s.frame rom m0 (finishStep s).mem)) := by
  obtain hstep | ⟨hflight, -, hall, hstep⟩ | ⟨-, haborting, -⟩ := finishStep_cases s
  · rw [hstep]; exact ⟨rfl, .inl hp⟩
  · rw [hstep]; exact ⟨rfl, .inr ⟨rfl, rfl, hp.frameWritten hs hflight hall⟩⟩
  · cases hp.running.symm.trans haborting

end Pixels

/-! Host stores outside the planes -/

/-- The cells of a pixel depend on the source plane alone (R133). -/
theorem frameCells_writeByte {f : FrameLatch} {a : Nat} (ha : f.inSrcPlane a = false) (rom : Lut) (m : Memory) (v : Byte)
    {p : Pixel} (hpixel : f.hasPixel p = true) : frameCells f rom (writeByte m a v) p = frameCells f rom m p := by
  have hread : memRead (writeByte m a v) (f.srcAddr p) f.inFmt.bytes = memRead m (f.srcAddr p) f.inFmt.bytes :=
    memRead_congr _ _ _ _ fun j hj => readByte_writeByte_other m a _ v fun heq => by
      cases ha.symm.trans (heq ▸ f.inSrcPlane_sample hpixel hj)
  rw [frameCells, frameCells, hread]

/-- A cell of the frame is not at an address outside the destination plane. -/
theorem frameCells_addr_ne {f : FrameLatch} {a : Nat} (ha : f.inDstPlane a = false) {rom : Lut} {m : Memory} {p : Pixel}
    {c : Host.Cell} (hpixel : f.hasPixel p = true) (hc : c ∈ frameCells f rom m p) : c.1 ≠ a := fun heq => by
  cases ha.symm.trans (heq ▸ f.inDstPlane_dstByte (frameCells_dst f rom m p hpixel c hc))

theorem inPlanes_eq_false_iff {f : FrameLatch} {a : Nat} :
    f.inPlanes a = false ↔ f.inSrcPlane a = false ∧ f.inDstPlane a = false := Bool.or_eq_false_iff

/-- A host store outside the frame's planes changes the memory of the start alike (20_memory.md R73). -/
theorem frameProgress_hostStore {rom : Lut} {m0 : Memory} {s : State} (hs : BlockInv s) (hp : FrameProgress rom m0 s)
    {a : Word} (ha : s.frame.inPlanes a.toNat = false) (v : Byte) :
    FrameProgress rom (writeByte m0 a.toNat v) (hostStoreStep a v s) := by
  obtain ⟨hsrc, hdst⟩ := inPlanes_eq_false_iff.1 ha
  have hcells {p : Pixel} (hpixel : p ∈ s.donePx) :=
    frameCells_writeByte hsrc rom m0 v (hs.done_in_frame p hpixel)
  refine { hp with start_wf := ?start, unraced := ?unraced, done := ?done, flight := ?flight, bytes := ?bytes }
  case start => exact writeByte_wf m0 a.toNat v hp.start_wf a.isLt
  case unraced =>
    rw [hostStoreStep_raced, hostStoreStep_frame]
    split
    · exact List.forall_mem_cons.2 ⟨hsrc, hp.unraced⟩
    · exact hp.unraced
  case done =>
    intro p hpixel c hc
    rw [hostStoreStep_frame, hcells hpixel] at hc
    refine (hp.done p hpixel c hc).imp_right fun hmem => ?_
    exact (readByte_writeByte_other s.mem a.toNat c.1 v
      (frameCells_addr_ne hdst (hs.done_in_frame p hpixel) hc)).trans hmem
  case flight =>
    intro c hc
    obtain ⟨p, hpixel, hcell⟩ := hp.flight c hc
    exact ⟨p, hpixel, by rw [hostStoreStep_frame, hcells hpixel]; exact hcell⟩
  case bytes =>
    intro b
    rw [hostStoreStep_mem, readByte_writeByte s.mem a.toNat b v hs.mem_wf,
      readByte_writeByte m0 a.toNat b v hp.start_wf]
    split
    case isTrue => exact .inl rfl
    case isFalse =>
      refine (hp.bytes b).imp_right ?_
      rintro ⟨p, hpixel, hcell⟩
      exact ⟨p, hpixel, by rw [hostStoreStep_frame, hcells hpixel]; exact hcell⟩

/-! Every event that leaves the frame alone -/

/-- The builder leaves the frame alone: it fills the shadow bank only. -/
theorem frameProgress_build {rom : Lut} {m0 : Memory} {s : State} (hp : FrameProgress rom m0 s) :
    (buildStep s).frame = s.frame ∧ FrameProgress rom m0 (buildStep s) := by
  obtain ⟨-, hstep⟩ | ⟨-, hstep⟩ := buildStep_cases s
  all_goals rw [hstep]; exact ⟨rfl, hp.congr rfl rfl rfl rfl rfl rfl rfl⟩

theorem frameProgress_hostLoad {rom : Lut} {m0 : Memory} {s : State} (hp : FrameProgress rom m0 s) (a : Word) :
    (hostLoadStep a s).frame = s.frame ∧ FrameProgress rom m0 (hostLoadStep a s) := by
  obtain hstep | hstep := hostLoadStep_cases a s
  all_goals rw [hstep]; exact ⟨rfl, hp.congr rfl rfl rfl rfl rfl rfl rfl⟩

/-- A register transaction leaves the frame alone (R126). -/
theorem frameProgress_exec {rom : Lut} {m0 : Memory} {s t : State} (hp : FrameProgress rom m0 s) {i : Instr}
    (h : exec i s = .next t) : t.frame = s.frame ∧ FrameProgress rom m0 t := by
  obtain ⟨hphase, hframe, hdone, hflight, hraced, hmem, hactive⟩ :=
    transactionsNeverChangeAFrameInProgress i s t (by simp [hp.running]) h
  exact ⟨hframe, hp.congr hphase hframe hactive hraced hdone hflight hmem⟩

/-- An event that leaves the frame alone keeps its progress, over the memory with the event's store, or completes it. -/
theorem frameProgress_deliver {rom : Lut} {m0 : Memory} {e : Event} {s t : State} (hs : BlockInv s)
    (hp : FrameProgress rom m0 s) (hcalm : e.calm s.frame = true) (h : deliver e s = .next t) :
    t.frame = s.frame ∧ (FrameProgress rom (e.stored m0) t ∨
      (t.phase = .idle ∧ t.intDone = true ∧ FrameWritten s.frame rom (e.stored m0) t.mem)) := by
  cases e
  case host bits w =>
    obtain ⟨-, hexec⟩ | ⟨-, hrefused⟩ := hostTransaction_cases bits w s
    · exact (frameProgress_exec hp (hexec.symm.trans h)).imp_right .inl
    · cases hrefused.symm.trans h
  case hostStore a v =>
    cases h
    exact ⟨rfl, .inl (frameProgress_hostStore hs hp (by simpa [Event.calm] using hcalm) v)⟩
  case hostLoad a => cases h; exact (frameProgress_hostLoad hp a).imp_right .inl
  case build => cases h; exact (frameProgress_build hp).imp_right .inl
  case publish =>
    cases h
    rw [publishStep_of_not_fenced (by simp [hp.running])]
    exact ⟨rfl, .inl hp⟩
  case pixel x y picks reply =>
    cases reply
    case ok => exact (frameProgress_pixel hs hp h).imp_right .inl
    case error => cases hcalm
  case complete k reply =>
    cases reply
    case ok => cases h; exact (frameProgress_complete hs hp k).imp_right .inl
    case error => cases hcalm
  case finish => cases h; exact frameProgress_finish hs hp
  case reset => cases hcalm

/-- The block's own turns leave a frame alone, write no register and store nothing for the host. -/
theorem ownTurn_calm {s : State} {e : Event} (h : s.ownTurn = some e) (f : FrameLatch) (m : Memory) :
    e.calm f = true ∧ e.watches f = true ∧ e.stored m = m := by
  obtain ⟨rfl, -⟩ | ⟨rfl, -⟩ | ⟨rfl, -⟩ | ⟨_, rfl, -⟩ | ⟨rfl, -⟩ := ownTurn_cases h
  all_goals exact ⟨rfl, rfl, rfl⟩

/-- Settles O57: the step's event leaves the frame alone, whether it comes from outside or is the block's own turn. -/
theorem frameProgressIsKeptOrTheFrameIsWritten : Obligations.FrameProgressIsKeptOrTheFrameIsWritten := by
  intro rom m0 s t hs hp hcalm h
  obtain ⟨e, rest, hin, hstep⟩ | ⟨e, hin, hturn, hstep⟩ | ⟨hin, -, hstep⟩ := step_cases s
  · rw [hin]
    exact frameProgress_deliver (s := { s with inputs := rest }) (blockInv_inputs rest hs)
      (hp.congr rfl rfl rfl rfl rfl rfl rfl) (hcalm e rest hin) (hstep.symm.trans h)
  · obtain ⟨hcalm', -, hstored⟩ := ownTurn_calm hturn s.frame m0
    have hkept := frameProgress_deliver hs hp hcalm' (hstep.symm.trans h)
    rw [hstored] at hkept
    rw [hin]
    exact hkept
  · cases hstep.symm.trans h
    rw [hin]
    exact ⟨rfl, .inl hp⟩

end Sys2Proof.Machine
end

section
/-! PROOFS. Every frame ends (42_frame_transform.md R127, 70_reset_and_hazards.md R211): each of the block's own turns leaves
less work, and the phase stays busy while there is any. -/

namespace Sys2Proof.Machine

/-! The work that is left -/

/-- How many pixels of the frame are not yet done (R127). -/
def State.pixelsLeft (s : State) : Nat := (s.frame.pixels.filter fun p => decide (p ∉ s.donePx)).length

/-- How many of the frame's own turns are left: for each of its pixels a turn and one for each of its bytes, the writes in
flight, and the turns that begin and end its pixel work. -/
def State.frameWork (s : State) : Nat :=
  match s.phase with
  | .idle => 0
  | .fenced => 2 + s.inflight.length + s.pixelsLeft * (s.frame.outFmt.bytes + 1)
  | .running => 1 + s.inflight.length + s.pixelsLeft * (s.frame.outFmt.bytes + 1)
  | .aborting => 1 + s.inflight.length

/-- How many of the block's own turns are left: the builder's, and the frame's. -/
def State.work (s : State) : Nat := s.buildBusy.toNat + s.frameWork

section Work
variable {s : State}

theorem frameWork_of_idle (h : s.phase = .idle) : s.frameWork = 0 := by rw [State.frameWork, h]

theorem frameWork_of_fenced (h : s.phase = .fenced) :
    s.frameWork = 2 + s.inflight.length + s.pixelsLeft * (s.frame.outFmt.bytes + 1) := by rw [State.frameWork, h]

theorem frameWork_of_running (h : s.phase = .running) :
    s.frameWork = 1 + s.inflight.length + s.pixelsLeft * (s.frame.outFmt.bytes + 1) := by rw [State.frameWork, h]

theorem frameWork_of_aborting (h : s.phase = .aborting) : s.frameWork = 1 + s.inflight.length := by
  rw [State.frameWork, h]

end Work

/-- A pixel of the frame that is done is one less to do. -/
theorem pixelsLeft_lt {s t : State} {p : Pixel} (hpixel : s.frame.hasPixel p = true) (hnew : p ∉ s.donePx)
    (hframe : t.frame = s.frame) (hdone : t.donePx = p :: s.donePx) : t.pixelsLeft < s.pixelsLeft := by
  have hleft : (s.frame.pixels.filter fun q => decide (q ∉ t.donePx)) =
      (s.frame.pixels.filter fun q => decide (q ∉ s.donePx)).filter fun q => decide (q ≠ p) := by
    rw [List.filter_filter]
    refine List.filter_congr fun q _ => ?_
    simp [hdone]
  rw [State.pixelsLeft, State.pixelsLeft, hframe, hleft, List.length_filter_lt_length_iff_exists]
  exact ⟨p, List.mem_filter.2 ⟨(s.frame.mem_pixels p).2 hpixel, decide_eq_true hnew⟩, by simp⟩

theorem length_pixelCells (s : State) (p : Pixel) (picks : List Nat) :
    (s.pixelCells p picks).length = s.frame.outFmt.bytes := by
  rw [State.pixelCells, length_memWriteCells, length_pack]

/-! Each of the block's own turns leaves less of it -/

theorem work_buildStep_lt {s : State} (hbuild : s.buildBusy = true) : (buildStep s).work < s.work := by
  have hframe : (buildStep s).frameWork = s.frameWork := by rw [buildStep_of_busy hbuild]; rfl
  have hbuilt : (buildStep s).buildBusy = false := by rw [buildStep_of_busy hbuild]
  rw [State.work, State.work, hframe, hbuilt, hbuild]
  exact Nat.add_lt_add_right Nat.one_pos _

/-- The publication ends the wait at the fence (R98). -/
theorem work_publishStep_lt {s : State} (hfenced : s.phase = .fenced) (hbuilt : s.buildBusy = false) :
    (publishStep s).work < s.work := by
  obtain ⟨hrunning, hbuilt', hframe⟩ := publishStep_passes hfenced hbuilt
  have hflight : (publishStep s).inflight = s.inflight := by
    obtain ⟨-, hstep⟩ | ⟨-, -, -, hstep⟩ | ⟨-, -, -, hstep⟩ := publishStep_cases s
    all_goals rw [hstep]
  have hdone : (publishStep s).donePx = s.donePx := by
    obtain ⟨-, hstep⟩ | ⟨-, -, -, hstep⟩ | ⟨-, -, -, hstep⟩ := publishStep_cases s
    all_goals rw [hstep]
  have hleft : (publishStep s).pixelsLeft = s.pixelsLeft := by rw [State.pixelsLeft, hframe, hdone]; rfl
  rw [State.work, State.work, frameWork_of_running hrunning, frameWork_of_fenced hfenced, hbuilt, hbuilt', hflight, hleft,
    hframe]
  omega

/-- A write that completes is one less in flight. -/
theorem work_completeStep_lt {s : State} (hbus : s.phase = .running ∨ s.phase = .aborting) (hflight : s.inflight ≠ []) :
    (completeStep 0 .ok s).work < s.work := by
  obtain ⟨c, rest, hcons⟩ := List.exists_cons_of_ne_nil hflight
  have hstep : completeStep 0 .ok s = { s with inflight := rest, mem := writeByte s.mem c.1 c.2 } := by
    rw [completeStep, (onTheBus_iff s).2 hbus, hcons]
    rfl
  rw [hstep, State.work, State.work]
  refine Nat.add_lt_add_left ?_ _
  obtain hphase | hphase := hbus
  · rw [frameWork_of_running hphase, hcons, frameWork_of_running (s := { s with inflight := rest, mem := _ }) hphase]
    exact Nat.add_lt_add_right (Nat.lt_succ_self _) _
  · rw [frameWork_of_aborting hphase, hcons, frameWork_of_aborting (s := { s with inflight := rest, mem := _ }) hphase]
    exact Nat.lt_succ_self _

/-- A pixel's step puts fewer writes in flight than the pixel counted for. -/
theorem work_pixelStep_lt {s t : State} {p : Pixel} {picks : List Nat} (hrunning : s.phase = .running)
    (hpixel : s.frame.hasPixel p = true) (hnew : p ∉ s.donePx) (h : pixelStep p picks .ok s = .next t) :
    t.work < s.work := by
  obtain ⟨hdisabled, -⟩ | ⟨-, -, hstep⟩ | ⟨-, hreply, -⟩ | ⟨-, -, hstep⟩ := pixelStep_cases p picks .ok s
  · cases hdisabled.symm.trans ((pixelEnabled_iff s p).2 ⟨hrunning, hpixel, hnew⟩)
  · cases hstep.symm.trans h
  · cases hreply
  · have ht := Host.Outcome.next.inj (hstep.symm.trans h)
    have hbuild : t.buildBusy = s.buildBusy := by rw [← ht]
    have hphase : t.phase = .running := by rw [← ht]; exact hrunning
    have hframe : t.frame = s.frame := by rw [← ht]
    have hflight : t.inflight.length = s.inflight.length + s.frame.outFmt.bytes := by
      rw [← ht, List.length_append, length_pixelCells]
    have hleft : t.pixelsLeft < s.pixelsLeft := pixelsLeft_lt hpixel hnew hframe (by rw [← ht])
    have hturns := Nat.mul_le_mul_right (s.frame.outFmt.bytes + 1) hleft
    rw [Nat.succ_mul] at hturns
    rw [State.work, State.work, frameWork_of_running hphase, frameWork_of_running hrunning, hbuild, hframe, hflight]
    omega

/-- The end of a frame leaves no work of it. -/
theorem work_finishStep_lt {s : State} (hflight : s.inflight = [])
    (hend : s.phase = .running ∧ s.nextPixel = none ∨ s.phase = .aborting) : (finishStep s).work < s.work := by
  obtain ⟨hrunning, hnext⟩ | haborting := hend
  · rw [finishStep_of_running hrunning, if_pos ⟨hflight, hnext⟩, State.work, State.work, completeFrame_buildBusy,
      frameWork_of_idle (completeFrame_phase s), frameWork_of_running hrunning]
    omega
  · rw [finishStep_of_aborting haborting hflight, State.work, State.work, frameWork_of_idle (s := abortFrame s) rfl,
      frameWork_of_aborting haborting, show (abortFrame s).buildBusy = s.buildBusy from rfl]
    omega

theorem work_ownTurn_lt {s t : State} {e : Event} (hturn : s.ownTurn = some e) (h : deliver e s = .next t) :
    t.work < s.work := by
  obtain ⟨rfl, hbuild⟩ | ⟨rfl, hbuild, hfenced⟩ | ⟨rfl, -, hbus, hflight⟩ | ⟨p, rfl, -, hrunning, -, hnext⟩ |
    ⟨rfl, -, hflight, hend⟩ := ownTurn_cases hturn
  · cases h; exact work_buildStep_lt hbuild
  · cases h; exact work_publishStep_lt hfenced hbuild
  · cases h; exact work_completeStep_lt hbus hflight
  · obtain ⟨hpixel, hnew⟩ := nextPixel_eq_some s p hnext
    exact work_pixelStep_lt hrunning hpixel hnew h
  · cases h; exact work_finishStep_lt hflight hend

/-! The block runs to idle -/

theorem run_succ_of_next (M : Host.Core) {s t : M.State} (h : M.step s = .next t) (k : Nat) :
    M.run (k + 1) s = M.run k t := by
  rw [Host.Core.run, h]

/-- Some number of steps leads from `s` to `u`. -/
def Reaches (s u : State) : Prop := ∃ k, Sys2Proof.core.run k s = .next u

theorem Reaches.refl (s : State) : Reaches s s := ⟨0, rfl⟩

theorem Reaches.head {s t u : State} (hstep : step s = .next t) (h : Reaches t u) : Reaches s u := by
  obtain ⟨k, hk⟩ := h
  exact ⟨k + 1, (run_succ_of_next Sys2Proof.core hstep k).trans hk⟩

/-- A busy block has a turn of its own to take. -/
theorem exists_ownTurn {s : State} (hbusy : s.phase ≠ .idle) : ∃ e, s.ownTurn = some e := by
  unfold State.ownTurn
  split
  · exact ⟨_, rfl⟩
  · split
    · contradiction
    · exact ⟨_, rfl⟩
    · split
      · exact ⟨_, rfl⟩
      · split
        · exact ⟨_, rfl⟩
        · exact ⟨_, rfl⟩
    · split
      · exact ⟨_, rfl⟩
      · exact ⟨_, rfl⟩

/-- Under the invariant an event that is no register transaction has a next state. -/
theorem deliver_next {s : State} {e : Event} (hs : BlockInv s) (hhost : ∀ bits w, e ≠ .host bits w) :
    ∃ t, deliver e s = .next t := by
  cases hstep : deliver e s with
  | next t => exact ⟨t, rfl⟩
  | fault r => exact absurd hstep (deliver_ne_fault hs)
  | refused r =>
    obtain ⟨bits, w, he, -⟩ := deliver_refused_cases hstep
    exact absurd he (hhost bits w)

/-- With no event to come, what the block's own turns keep holds when they have ended the frame (R211). -/
theorem reaches_idle {P : State → Prop} (hinv : ∀ s, P s → BlockInv s ∧ s.inputs = [])
    (hturn : ∀ s e t, P s → s.phase ≠ .idle → s.ownTurn = some e → deliver e s = .next t → P t) (s : State) (hs : P s) :
    ∃ u, Reaches s u ∧ P u ∧ u.phase = .idle := by
  induction hwork : s.work using Nat.strong_induction_on generalizing s with
  | _ n ih =>
    by_cases hidle : s.phase = .idle
    · exact ⟨s, .refl s, hs, hidle⟩
    · obtain ⟨hblock, hin⟩ := hinv s hs
      obtain ⟨e, he⟩ := exists_ownTurn hidle
      obtain ⟨t, ht⟩ := deliver_next hblock fun bits w heq => ownTurn_ne_host s bits w (heq ▸ he)
      have hstep : step s = .next t := by
        rw [step, stepOnce, hin]
        simp only [he, ht]
      obtain ⟨u, hreach, hu⟩ := ih t.work (hwork ▸ work_ownTurn_lt he ht) t (hturn s e t hs hidle he ht) rfl
      exact ⟨u, .head hstep hreach, hu⟩

/-! The statement -/

/-- The events that end a frame (42_frame_transform.md R130, 60_exceptions.md R185, 70_reset_and_hazards.md R199). -/
theorem frame_end_cases {e : Event} {s t : State} (h : deliver e s = .next t) (hbusy : s.phase ≠ .idle)
    (hidle : t.phase = .idle) : t = completeFrame s ∨ t = abortFrame s ∨ e = .reset := by
  obtain hsame | ⟨_, -, -, -, -, rfl⟩ | ⟨-, -, -, hrunning⟩ | ⟨-, haborting, -⟩ | ⟨rfl, -, -⟩ | ⟨he, -⟩ :=
    deliver_phase_cases h
  · exact absurd (hsame.symm.trans hidle) hbusy
  · cases hidle
  · cases hidle.symm.trans hrunning
  · cases hidle.symm.trans haborting
  · cases h
    obtain hstep | ⟨-, -, -, hstep⟩ | ⟨-, -, hstep⟩ := finishStep_cases s
    · exact absurd (hstep ▸ hidle) hbusy
    · exact .inl hstep
    · exact .inr (.inl hstep)
  · exact .inr (.inr he)

/-- No event changes the events to come. -/
theorem deliver_inputs {e : Event} {s t : State} (h : deliver e s = .next t) : t.inputs = s.inputs := by
  obtain ⟨w, -, hexec⟩ | ⟨-, rfl⟩ | ⟨-, -, -, -, rfl⟩ | ⟨-, -, -, rfl⟩ | ⟨-, -, hkept⟩ := deliver_register_cases h
  · obtain ⟨-, -, -, -, -, -, hin, -⟩ := transactionsNeverTouchMemoryOrTables _ s t hexec
    exact hin
  · rfl
  · rfl
  · rfl
  · rw [hkept]

/-- A frame that is still busy has recorded no error of its own; one that has ended has `DONE` set, or `BusError` recorded
(R130, R185). -/
def EndsProperly (code : ErrorCode) (s : State) : Prop :=
  (s.phase ≠ .idle ∧ s.errCode = code) ∨
  (s.phase = .idle ∧ ((s.intDone = true ∧ s.errCode = code) ∨ (s.errCode = .busError ∧ s.intErr = true)))

/-- One of the block's own turns keeps the way a frame ends. -/
theorem endsProperly_ownTurn {code : ErrorCode} {s t : State} {e : Event} (hs : EndsProperly code s)
    (hbusy : s.phase ≠ .idle) (hturn : s.ownTurn = some e) (h : deliver e s = .next t) : EndsProperly code t := by
  obtain ⟨-, hcode⟩ | ⟨hidle, -⟩ := hs
  case inr => exact absurd hidle hbusy
  case inl =>
    have hhost (bits : Nat) (w : TWord) : e ≠ .host bits w := fun he => ownTurn_ne_host s bits w (he ▸ hturn)
    have hreset : e ≠ .reset := fun he => by cases (ownTurn_calm (he ▸ hturn) s.frame s.mem).1
    by_cases hidle : t.phase = .idle
    case pos =>
      obtain rfl | rfl | he := frame_end_cases h hbusy hidle
      · exact .inr ⟨hidle, .inl ⟨rfl, hcode⟩⟩
      · exact .inr ⟨hidle, .inr ⟨rfl, rfl⟩⟩
      · exact absurd he hreset
    case neg =>
      obtain ⟨w, he, -⟩ | ⟨he, -⟩ | ⟨-, -, -, -, rfl⟩ | ⟨-, -, -, rfl⟩ | ⟨-, -, hkept⟩ := deliver_register_cases h
      · exact absurd he (hhost 32 w)
      · exact absurd he hreset
      · exact absurd rfl hidle
      · exact absurd rfl hidle
      · have hsame : t.errCode = s.errCode := by rw [hkept]
        exact .inl ⟨hidle, hsame.trans hcode⟩

/-- Settles O58: the block's own turns run to idle, and they keep the way the frame ends. -/
theorem everyFrameCompletesOrAborts : Obligations.EveryFrameCompletesOrAborts := by
  intro s hs hin hbusy
  obtain ⟨u, ⟨k, hk⟩, ⟨-, -, hend⟩, hidle⟩ := reaches_idle
    (P := fun u => BlockInv u ∧ u.inputs = [] ∧ EndsProperly s.errCode u)
    (fun u ⟨hu, hin, _⟩ => ⟨hu, hin⟩)
    (fun u e t ⟨hu, hin, hend⟩ hbusy hturn h =>
      ⟨blockInv_deliver hu h, (deliver_inputs h).trans hin, endsProperly_ownTurn hend hbusy hturn h⟩)
    s ⟨hs, hin, .inl ⟨hbusy, rfl⟩⟩
  obtain ⟨hnot, -⟩ | ⟨-, hended⟩ := hend
  · exact absurd hidle hnot
  · exact ⟨k, u, hk, hidle, hended⟩

end Sys2Proof.Machine
end

section
/-! PROOFS. An accepted PROCESS ends with its picture in the destination (42_frame_transform.md R124 to R130, R145): from the
fence through the frame's progress to the idle block, under events that write no register and leave the frame alone. -/

namespace Sys2Proof.Machine

/-! Events that watch -/

/-- A 32-bit aligned read sets what the host is told and nothing else (30_encoding.md R78, 20_memory.md R67). -/
theorem exec_of_read {w : TWord} (hwe : w.we = false) (haligned : w.off.toNat % 4 = 0) (s : State) :
    ∃ v, exec (decode w) s = .next { s with readData := v } := by
  have hmapped : ∀ i ∈ decodeRead w.off w.data, ∃ v, exec i s = .next { s with readData := v } := by
    unfold decodeRead
    iterate 20 refine forall_mem_ite_some (fun _ => ⟨_, rfl⟩) ?_
    simp
  have hdecode : decode w = (decodeRead w.off w.data).getD (decodeUnmapped false w.off w.data) := by
    rw [decode, hwe, decodeFields_of_aligned haligned, if_neg Bool.false_ne_true]
  rw [hdecode]
  cases hread : decodeRead w.off w.data
  case some i => exact hmapped i hread
  case none => exact ⟨0, (exec_decodeUnmapped false w.off w.data s).trans (unmappedAccess_eq false s)⟩

/-- An event that watches is a register read, or a calm event that is no transaction (30_encoding.md R78). -/
theorem watches_cases {f : FrameLatch} {e : Event} (h : e.watches f = true) :
    (∃ w, e = .host 32 w ∧ w.we = false ∧ w.off.toNat % 4 = 0) ∨
    ((∀ bits w, e ≠ .host bits w) ∧ e ≠ .reset ∧ e.calm f = true) := by
  cases e
  case host bits w =>
    simp only [Event.watches, Bool.and_eq_true, decide_eq_true_eq, Bool.not_eq_true'] at h
    obtain ⟨⟨rfl, hwe⟩, haligned⟩ := h
    exact .inl ⟨w, rfl, hwe, haligned⟩
  case reset => cases h
  all_goals exact .inr ⟨by simp, by simp, h⟩

/-- Under the invariant an event that watches has a next state. -/
theorem deliver_next_of_watches {f : FrameLatch} {e : Event} {s : State} (hs : BlockInv s) (h : e.watches f = true) :
    ∃ t, deliver e s = .next t := by
  obtain ⟨w, rfl, hwe, haligned⟩ | ⟨hhost, -⟩ := watches_cases h
  · obtain ⟨v, hread⟩ := exec_of_read hwe haligned s
    exact ⟨_, hread⟩
  · exact deliver_next hs hhost

/-- What a watching event keeps while no abort is under way. -/
structure Watched (s t : State) : Prop where
  frame : t.frame = s.frame
  errCode : t.errCode = s.errCode
  preset : t.preset = s.preset
  intDone : s.intDone = true → t.intDone = true

theorem watched_deliver {f : FrameLatch} {e : Event} {s t : State} (he : e.watches f = true)
    (hphase : s.phase ≠ .aborting) (h : deliver e s = .next t) : Watched s t := by
  obtain ⟨w, rfl, hexec⟩ | ⟨rfl, -⟩ | ⟨-, -, -, -, rfl⟩ | ⟨-, -, haborting, -⟩ | ⟨-, -, hkept⟩ := deliver_register_cases h
  · obtain ⟨w', ⟨⟩, hwe, haligned⟩ | ⟨hhost, -⟩ := watches_cases he
    · obtain ⟨v, hread⟩ := exec_of_read hwe haligned s
      cases hread.symm.trans hexec
      exact ⟨rfl, rfl, rfl, id⟩
    · exact absurd rfl (hhost 32 w)
  · cases he
  · exact ⟨rfl, rfl, rfl, fun _ => rfl⟩
  · exact absurd haborting hphase
  · rw [hkept]
    exact ⟨rfl, rfl, rfl, id⟩

/-! The three stages of an accepted frame -/

/-- A frame at the fence, which the host has not raced with, over the memory its pixels will see. -/
structure WaitsAtFence (m : Memory) (s : State) : Prop where
  fenced : s.phase = .fenced
  unraced : ∀ c ∈ s.raced, s.frame.inSrcPlane c.1 = false
  mem : s.mem = m
  preset : s.frame.preset = .jet → s.preset = .jet

/-- An idle block that has completed the frame over the memory `m`. -/
structure HasWritten (f : FrameLatch) (rom : Lut) (m : Memory) (s : State) : Prop where
  idle : s.phase = .idle
  intDone : s.intDone = true
  start_wf : m.wf = true
  written : FrameWritten f rom m s.mem

/-- A register read changes neither the frame at the fence nor memory. -/
theorem WaitsAtFence.congr {m : Memory} {s t : State} (h : WaitsAtFence m s) (hphase : t.phase = s.phase)
    (hraced : t.raced = s.raced) (hframe : t.frame = s.frame) (hmem : t.mem = s.mem) (hpreset : t.preset = s.preset) :
    WaitsAtFence m t where
  fenced := hphase.trans h.fenced
  unraced := by rw [hraced, hframe]; exact h.unraced
  mem := hmem.trans h.mem
  preset := by rw [hframe, hpreset]; exact h.preset

/-- At the fence a calm event leaves the frame waiting, or publication starts its pixel work; a JET frame then reads the
table of the current preset (40_configuration.md R97 to R99). -/
theorem waitsAtFence_deliver {m : Memory} {e : Event} {s t : State} (hs : BlockInv s) (hw : WaitsAtFence m s)
    (hhost : ∀ bits w, e ≠ .host bits w) (hcalm : e.calm s.frame = true) (h : deliver e s = .next t) :
    WaitsAtFence (e.stored m) t ∨ FrameProgress s.jetRom (e.stored m) t := by
  have hoff := (offTheBus_iff s).2 (.inr hw.fenced)
  cases e
  case host bits w => exact absurd rfl (hhost bits w)
  case hostStore a v =>
    cases h
    obtain ⟨hsrc, -⟩ := inPlanes_eq_false_iff.1 (show s.frame.inPlanes a.toNat = false by simpa [Event.calm] using hcalm)
    refine .inl { hw with unraced := ?_, mem := ?_ }
    · rw [hostStoreStep_raced, hostStoreStep_frame]
      split
      · exact List.forall_mem_cons.2 ⟨hsrc, hw.unraced⟩
      · exact hw.unraced
    · rw [hostStoreStep_mem, hw.mem]
      rfl
  case hostLoad a =>
    cases h
    obtain hstep | hstep := hostLoadStep_cases a s
    all_goals rw [hstep]; exact .inl (hw.congr rfl rfl rfl rfl rfl)
  case build =>
    cases h
    obtain ⟨-, hstep⟩ | ⟨-, hstep⟩ := buildStep_cases s
    all_goals rw [hstep]; exact .inl (hw.congr rfl rfl rfl rfl rfl)
  case publish =>
    by_cases hbuilt : s.buildBusy = false
    · refine .inr ?_
      have hshadow (hjet : s.frame.preset = .jet) := hs.shadow_built (hw.preset hjet) hbuilt
      have hprogress := publicationStartsTheFrame s t hs hw.fenced hbuilt hw.unraced hshadow h
      rw [hw.mem] at hprogress
      exact hprogress
    · cases h
      have hstep : publishStep s = s := if_neg fun hfence => hbuilt hfence.2
      rw [hstep]
      exact .inl hw
  case pixel x y picks reply => cases (pixelStep_of_off hoff _ picks reply).symm.trans h; exact .inl hw
  case complete k reply => cases h; rw [completeStep_of_off hoff]; exact .inl hw
  case finish => cases h; rw [finishStep_of_off hoff]; exact .inl hw
  case reset => cases hcalm

/-- A host store outside the planes stores its byte beside the picture (20_memory.md R73). -/
theorem frameWritten_writeByte {f : FrameLatch} {rom : Lut} {m0 m : Memory} (h : FrameWritten f rom m0 m)
    (hwf0 : m0.wf = true) (hwf : m.wf = true) {a : Nat} (ha : f.inPlanes a = false) (v : Byte) :
    FrameWritten f rom (writeByte m0 a v) (writeByte m a v) := by
  obtain ⟨hpixels, hother⟩ := h
  obtain ⟨hsrc, hdst⟩ := inPlanes_eq_false_iff.1 ha
  refine ⟨fun p hpixel c hc => ?_, fun b hb => ?_⟩
  · rw [frameCells_writeByte hsrc rom m0 v hpixel] at hc
    rw [readByte_writeByte_other m a c.1 v (frameCells_addr_ne hdst hpixel hc)]
    exact hpixels p hpixel c hc
  · rw [readByte_writeByte m a b v hwf, readByte_writeByte m0 a b v hwf0, hother b hb]

/-- Only a host store stores for the host. -/
theorem stored_of_ne {e : Event} (h : ∀ a v, e ≠ .hostStore a v) (m : Memory) : e.stored m = m := by
  cases e
  case hostStore a v => exact absurd rfl (h a v)
  all_goals rfl

/-- What the host stores keeps memory canonical. -/
theorem stored_wf (e : Event) {m : Memory} (h : m.wf = true) : (e.stored m).wf = true := by
  cases e
  case hostStore a v => exact writeByte_wf m a.toNat v h a.isLt
  all_goals exact h

/-- Once the picture is written, a calm event keeps it: only a host store changes memory (R58). -/
theorem hasWritten_deliver {f : FrameLatch} {rom : Lut} {m : Memory} {e : Event} {s t : State} (hs : BlockInv s)
    (hw : HasWritten f rom m s) (hhost : ∀ bits w, e ≠ .host bits w) (hreset : e ≠ .reset) (hcalm : e.calm f = true)
    (hwatched : Watched s t) (h : deliver e s = .next t) : HasWritten f rom (e.stored m) t := by
  have hidle : t.phase = .idle := by
    by_contra hbusy
    obtain ⟨⟨w, he, -⟩, -⟩ := onlyAnAcceptedProcessStartsAFrame e s t hw.idle h hbusy
    exact hhost 32 w he
  have hdone := hwatched.intDone hw.intDone
  by_cases hstore : ∃ a v, e = .hostStore a v
  case neg =>
    obtain ⟨-, hmem | hstore'⟩ := deliver_memory_of_idle hw.idle h hreset
    · rw [stored_of_ne fun a v he => hstore ⟨a, v, he⟩]
      exact ⟨hidle, hdone, hw.start_wf, hmem ▸ hw.written⟩
    · exact absurd hstore' hstore
  case pos =>
    obtain ⟨a, v, rfl⟩ := hstore
    cases h
    exact ⟨hidle, hdone, writeByte_wf m a.toNat v hw.start_wf a.isLt,
      frameWritten_writeByte hw.written hw.start_wf hs.mem_wf (by simpa [Event.calm] using hcalm) v⟩

/-- An accepted frame on its way to the picture, over the memory `m` as the host has it. -/
structure PictureDue (f : FrameLatch) (rom : Lut) (code : ErrorCode) (m : Memory) (s : State) : Prop where
  inv : BlockInv s
  frame : s.frame = f
  jetRom : s.jetRom = rom
  errCode : s.errCode = code
  stage : WaitsAtFence m s ∨ FrameProgress rom m s ∨ HasWritten f rom m s

theorem PictureDue.not_aborting {f : FrameLatch} {rom : Lut} {code : ErrorCode} {m : Memory} {s : State}
    (h : PictureDue f rom code m s) : s.phase ≠ .aborting := by
  obtain hwaits | hprogress | hwritten := h.stage
  · simp [hwaits.fenced]
  · simp [hprogress.running]
  · simp [hwritten.idle]

/-- The stage does not depend on what the host was told or on the events to come. -/
theorem PictureDue.congr {f : FrameLatch} {rom : Lut} {code : ErrorCode} {m : Memory} {s : State}
    (h : PictureDue f rom code m s) (v : Word) (rest : List Event) :
    PictureDue f rom code m { s with readData := v, inputs := rest } where
  inv := { h.inv with }
  frame := h.frame
  jetRom := h.jetRom
  errCode := h.errCode
  stage := h.stage.imp (fun hwaits => hwaits.congr rfl rfl rfl rfl rfl)
    (.imp (fun hprogress => hprogress.congr rfl rfl rfl rfl rfl rfl rfl) fun hwritten => { hwritten with })

/-- A watching event keeps the frame on its way to the picture. -/
theorem pictureDue_deliver {f : FrameLatch} {rom : Lut} {code : ErrorCode} {m : Memory} {e : Event} {s t : State}
    (hs : PictureDue f rom code m s) (he : e.watches f = true) (h : deliver e s = .next t) :
    PictureDue f rom code (e.stored m) t := by
  have hwatched := watched_deliver he hs.not_aborting h
  obtain ⟨w, rfl, hwe, haligned⟩ | ⟨hhost, hreset, hcalm⟩ := watches_cases he
  · obtain ⟨v, hread⟩ := exec_of_read hwe haligned s
    cases hread.symm.trans h
    exact hs.congr v s.inputs
  · have hframe := hs.frame
    refine ⟨blockInv_deliver hs.inv h, hwatched.frame.trans hs.frame, (deliver_jetRom h).trans hs.jetRom,
      hwatched.errCode.trans hs.errCode, ?_⟩
    obtain hwaits | hprogress | hwritten := hs.stage
    · have hnext := waitsAtFence_deliver hs.inv hwaits hhost (hframe ▸ hcalm) h
      rw [hs.jetRom] at hnext
      exact hnext.imp_right .inl
    · obtain ⟨-, hkept | ⟨hidle, hdone, hpicture⟩⟩ := frameProgress_deliver hs.inv hprogress (hframe ▸ hcalm) h
      · exact .inr (.inl hkept)
      · rw [hframe] at hpicture
        exact .inr (.inr ⟨hidle, hdone, stored_wf e hprogress.start_wf, hpicture⟩)
    · exact .inr (.inr (hasWritten_deliver hs.inv hwritten hhost hreset hcalm hwatched h))

/-! The run -/

/-- With watching events to come, a frame on its way to the picture gets there when they and the block's turns have ended. -/
theorem reaches_picture {f : FrameLatch} {rom : Lut} {code : ErrorCode} {es : List Event} {m : Memory} {s : State}
    (hin : s.inputs = es) (hwatches : ∀ e ∈ es, e.watches f = true) (hs : PictureDue f rom code m s) :
    ∃ u, Reaches s u ∧ u.inputs = [] ∧ u.phase = .idle ∧ PictureDue f rom code (hostStores es m) u := by
  induction es generalizing m s with
  | nil =>
    obtain ⟨u, hreach, ⟨hin', hu⟩, hidle⟩ := reaches_idle (P := fun u => u.inputs = [] ∧ PictureDue f rom code m u)
      (fun u ⟨hin, hu⟩ => ⟨hu.inv, hin⟩)
      (fun u e t ⟨hin, hu⟩ _ hturn h => by
        obtain ⟨-, hwatch, hstored⟩ := ownTurn_calm hturn f m
        exact ⟨(deliver_inputs h).trans hin, hstored ▸ pictureDue_deliver hu hwatch h⟩)
      s ⟨hin, hs⟩
    exact ⟨u, hreach, hin', hidle, hu⟩
  | cons e es ih =>
    obtain ⟨hwatch, hrest⟩ := List.forall_mem_cons.1 hwatches
    have hs' := hs.congr s.readData es
    obtain ⟨t, ht⟩ := deliver_next_of_watches hs'.inv hwatch
    obtain ⟨u, hreach, hu⟩ := ih (deliver_inputs ht) hrest (pictureDue_deliver hs' hwatch ht)
    exact ⟨u, .head ((step_of_inputs_cons hin).trans ht) hreach, hu⟩

/-- Settles O59: an accepted frame waits at the fence over the memory as it is, and from there the picture is reached. -/
theorem acceptedProcessWritesThePicture : Obligations.AcceptedProcessWritesThePicture := by
  intro s t hs hidle hwatches h hfenced
  have haccepted : t = latchFrame s := by
    obtain ⟨-, hstep⟩ | ⟨_, -, -, hstep⟩ | ⟨-, -, hstep⟩ := execCmdProcess_cases s
    · cases hstep.symm.trans h; cases hidle.symm.trans hfenced
    · cases hstep.symm.trans h; cases hidle.symm.trans hfenced
    · cases hstep.symm.trans h; rfl
  have hinv := blockInv_exec hs h
  subst haccepted
  have hdue : PictureDue s.latched s.jetRom s.errCode s.mem (latchFrame s) :=
    ⟨hinv, rfl, rfl, rfl, .inl ⟨rfl, fun c hc => (List.not_mem_nil hc).elim, rfl, id⟩⟩
  obtain ⟨u, ⟨k, hk⟩, hin, hdone, hu⟩ := reaches_picture (s := latchFrame s) rfl hwatches hdue
  obtain hwaits | hprogress | hwritten := hu.stage
  · cases hdone.symm.trans hwaits.fenced
  · cases hdone.symm.trans hprogress.running
  · exact ⟨k, u, hk, hin, hdone, hwritten.intDone, hu.errCode, hwritten.written⟩

end Sys2Proof.Machine
end
